-- ==== Sys2Proof/Word.lean ====
section
/-! DEFINITION. The plain types the manual's values are made of: bytes, 16-bit words, and the bounded
numbers that name stages, zones, sets, period slots and points (00 Terms). -/

namespace Sys2Proof

/-- A character on one of the three lines. -/
abbrev Byte := BitVec 8

/-- A 16-bit field of a frame, a meter stamp, or a check value. -/
abbrev Word16 := BitVec 16

/-- A performance stage, 0..3. -/
abbrev Stage := Fin 4

/-- A zone, 0..7. -/
abbrev Zone := Fin 8

/-- A set of the point table, 0..15; it also names a column of the coupling and needs tables. -/
abbrev SetIx := Fin 16

/-- A slot of the period ring, 0..31. -/
abbrev SlotIx := Fin 32

/-- A point id, 0..1023. -/
abbrev PointId := Fin 1024

/-- The stages in order. -/
def allStages : List Stage := [0, 1, 2, 3]

/-- The zones in order. -/
def allZones : List Zone := [0, 1, 2, 3, 4, 5, 6, 7]

/-- The sets of the point table in order. -/
def allSets : List SetIx := [0, 1, 2, 3, 4, 5, 6, 7, 8, 9, 10, 11, 12, 13, 14, 15]

/-- The slots of the period ring in order. -/
def allSlots : List SlotIx :=
  [0, 1, 2, 3, 4, 5, 6, 7, 8, 9, 10, 11, 12, 13, 14, 15,
   16, 17, 18, 19, 20, 21, 22, 23, 24, 25, 26, 27, 28, 29, 30, 31]

end Sys2Proof
end

