-- ==== Sys2Proof/Syntax.lean ====
section
/-! DEFINITION. The commands of the part: one constructor for each row of spec/opcode_table.json. A
request carries its sequence byte and its raw body bytes, so every body the console line can carry,
a wrong length and a wrong field included, is a command. -/

namespace Sys2Proof

/-- A meter input (chapter 2). -/
inductive Input where
  | a | b
  deriving DecidableEq, Repr

/-- The levels of the four strap pins (chapter 10.1). -/
structure Straps where
  /-- CONSOLE_RATE -/
  rate : Fin 4
  /-- METER_PREF -/
  pref : Fin 4
  /-- START_MODE -/
  mode : Fin 4
  /-- STALE_TIME -/
  stale : Fin 2
  deriving DecidableEq, Repr

/-- The fields of a valid meter reading frame, as sent (R19); start, kind and check are fixed by them. -/
structure MeterFrame where
  pointWord : Word16
  stamp : Word16
  level : Word16
  peak : Word16
  flags : Byte
  echo : Word16
  deriving DecidableEq, Repr

/-- The commands. -/
inductive Instr where
  -- reset and supply (chapter 10.2)
  | powerOn (pins : Straps)
  | pinReset (pins : Straps)
  | resetNLow
  | supplyBelowRange
  -- meter inputs (chapter 2)
  | meterCharacterReceived (inp : Input) (c : Byte) (good : Bool)
  | meterReadingFrame (inp : Input) (f : MeterFrame)
  | badFrame (inp : Input)
  | meterFrameGapExpiry (inp : Input)
  | meterLineBreak (inp : Input)
  | aliveTimerExpiry (inp : Input)
  | returnTimerExpiry
  -- window engine (chapters 3, 4) and control block (chapter 6)
  | reading
  | freshnessTick
  | freezeTimerExpiry (set : SetIx)
  -- limit schedule (chapter 5)
  | venueClockTick
  -- gain engines and stage link (chapter 7)
  | stepTimerTick (st : Stage)
  | holdTimerExpiry (st : Stage)
  | releaseTimerTick (st : Stage)
  | refreshTimerExpiry (st : Stage)
  | stageOrderSent
  -- standby monitor (chapter 10.5)
  | darkTimerExpiry
  -- console line (chapter 8)
  | consoleCharacterReceived (c : Byte) (good : Bool)
  | consoleFrameDiscarded
  | consoleFrameGapExpiry
  | consoleLineBreak
  | consoleFrameSent (pins : Straps)
  | requestDiscarded (kind seq : Byte) (body : List Byte)
  | unknownKind (kind seq : Byte) (body : List Byte)
  -- requests (chapter 8.3 and the owners' chapters)
  | status (seq : Byte) (body : List Byte)
  | setTime (seq : Byte) (body : List Byte)
  | getTime (seq : Byte) (body : List Byte)
  | start (seq : Byte) (body : List Byte)
  | restartFull (seq : Byte) (body : List Byte)
  | restartEnforcement (seq : Byte) (body : List Byte)
  | declarePoint (seq : Byte) (body : List Byte)
  | releasePoint (seq : Byte) (body : List Byte)
  | readPoint (seq : Byte) (body : List Byte)
  | setCoupling (seq : Byte) (body : List Byte)
  | postPeriod (seq : Byte) (body : List Byte)
  | readPeriod (seq : Byte) (body : List Byte)
  | recallPeriod (seq : Byte) (body : List Byte)
  | setFallback (seq : Byte) (body : List Byte)
  | setStageRates (seq : Byte) (body : List Byte)
  | readStage (seq : Byte) (body : List Byte)
  | setDark (seq : Byte) (body : List Byte)
  | readCounters (seq : Byte) (body : List Byte)
  | readCountersClear (seq : Byte) (body : List Byte)
  | exportOne (seq : Byte) (body : List Byte)
  | exportWalk (seq : Byte) (body : List Byte)
  | abortExport (seq : Byte) (body : List Byte)
  deriving DecidableEq, Repr

end Sys2Proof
end

