-- ==== Sys2Proof/Decode.lean ====
section
/-! DEFINITION. spec/opcode_table.json gives no row any bits (its commands are events and framed
requests, not words), so no word spells a command. How a request's frame is read, byte by byte, stands
in Machine/Frames.lean and Machine/ConsoleLink.lean. -/

namespace Sys2Proof

/-- The command that a word spells by the table's bits: none, for no row of the table has bits. -/
def decodeTableWord (_nbits _w : Nat) : Option Instr := none

end Sys2Proof
end

