-- ==== Sys2Proof/Config.lean ====
section
/-! DEFINITION. What the part fixes: the unit of the crystal time base and the lengths of the timers
(00 Timers). The spec leaves no result of a command undefined, so no free value stands here. -/

namespace Sys2Proof.Config

/-- DESIGN CHOICE (unsafe, log entry 2): the model counts the crystal time base in units of
1/3 600 000 s. In this unit every length the manual gives is a whole number: 160 µs, 100 ms, 1 s, and
four character times at each of the four console rates. -/
def second : Nat := 3600000

/-- The alive timer of a meter input (R24). -/
def aliveTime : Nat := 3 * second

/-- The return timer of the meter input unit (R28). -/
def returnTime : Nat := 10 * second

/-- The freshness tick (00 Timers, R73). -/
def freshPeriod : Nat := 1800000

/-- The freeze timer of a set (R113). -/
def freezeTime : Nat := 60 * second

/-- The attack and fade step tick (R125). -/
def stepPeriod : Nat := 360000

/-- Age at which an order leaves the order log (R138). -/
def logAge : Nat := 2 * second

/-- Frame gap time of a meter receiver: four characters at 250 000 bit/s, 160 µs (R21). -/
def meterGap : Nat := 576

/-- Frame gap time of the console receiver: four characters at the latched rate, 40 bit times at
9600, 38 400, 115 200 or 230 400 bit/s (R144). -/
def consoleGap (rate : Fin 4) : Nat :=
  match rate with
  | 0 => 15000
  | 1 => 3750
  | 2 => 1250
  | 3 => 625

/-- Greatest minute number (R44) and greatest venue clock count (R97). -/
def max32 : Nat := 4294967295

end Sys2Proof.Config
end

