-- ==== Sys2Proof/Machine/State.lean ====
section
/-! DEFINITION. The machine's state as plain data: every record, queue, counter, timer and mark that the
manual names, block by block, and the state right after reset. A timer is `some t` while it runs and is
due at time `t` of the time base, and `none` while it is stopped. -/

namespace Sys2Proof.Machine

/-- A timer of the crystal time base: stopped, or running with the time of its expiry (00 Timers). -/
abbrev Timer := Option Nat

/-- One value for each meter input. -/
structure PerInput (α : Type) where
  a : α
  b : α
  deriving DecidableEq, Repr

/-- The echo of a stage processor: its reduction and mute state (R32, R138). -/
structure Echo where
  reduction : Nat
  mute : Bool
  deriving DecidableEq, Repr

/-- The part's internal form of one valid frame from the active input (2.4). -/
structure Reading where
  point : PointId
  hint : Zone
  stamp : Word16
  level : Nat
  peak : Nat
  echo : Option Echo
  clip : Bool
  cal : Bool
  batt : Bool
  overMark : Bool
  overrun : Bool
  deriving DecidableEq, Repr

/-- A receiver looks for a start byte, or gathers a frame: the bytes so far, start byte first, and the
time at which its frame gap timer expires (R20, R21, R145). -/
inductive RxState where
  | hunt
  | collecting (bytes : List Byte) (gapAt : Nat)
  deriving DecidableEq, Repr

/-- The meter input unit (chapter 2). An input is alive while its alive timer runs (R24). -/
structure MeterUnit where
  rx : PerInput RxState
  alive : PerInput Timer
  active : Input
  returnAt : Timer
  deriving DecidableEq, Repr

/-- The reading queue and its holding slot (R33, R34); the head of the list is the head of the queue. -/
structure ReadingQueue where
  queue : List Reading
  holding : Option Reading
  deriving DecidableEq, Repr

/-- How a point's readings are used: its role with its zone or stage (3.1). -/
inductive Use where
  | boundary (zone : Zone)
  | foh (zone : Zone)
  | stage (st : Stage)
  | roaming (zone : Zone)
  deriving DecidableEq, Repr

/-- The long level stored at a minute's close: a level code, insufficient, or not computed (R56, R63). -/
inductive LongLevel where
  | code (l : Nat)
  | insufficient
  | notComputed
  deriving DecidableEq, Repr

/-- A completed minute record (4.1). -/
structure MinuteRecord where
  number : Nat
  sum : Nat
  count : Nat
  leq : Option Nat
  long : LongLevel
  peak : Option Nat
  cal : Nat
  clip : Nat
  thin : Bool
  overrun : Bool
  deriving DecidableEq, Repr

/-- The open minute (4.1). -/
structure OpenMinute where
  sum : Nat
  count : Nat
  elapsed : Nat
  peak : Option Nat
  cal : Nat
  clip : Nat
  overrun : Bool
  deriving DecidableEq, Repr

/-- The open minute's empty values (R56). -/
def OpenMinute.empty : OpenMinute :=
  { sum := 0, count := 0, elapsed := 0, peak := none, cal := 0, clip := 0, overrun := false }

/-- The window record of a slot (R56): the second ring oldest first, the minute ring newest first. -/
structure WindowRecord where
  ring : Vector (Option Nat) 60
  cur : OpenMinute
  minutes : List MinuteRecord
  lastStamp : Option Word16
  l1 : Option Nat
  pk : Option Nat
  fresh : Nat
  stale : Bool
  exceeding : Bool
  clear : Nat
  secs : Nat
  worstL1 : Option Nat
  worstPeak : Option Nat
  battery : Bool
  deriving DecidableEq, Repr

/-- The empty record (R56). -/
def WindowRecord.empty : WindowRecord :=
  { ring := Vector.replicate 60 none, cur := OpenMinute.empty, minutes := [], lastStamp := none,
    l1 := none, pk := none, fresh := 0, stale := false, exceeding := false, clear := 0, secs := 0,
    worstL1 := none, worstPeak := none, battery := false }

/-- A valid slot of the point table (3.1); a free slot is `none` where a slot may stand. -/
structure Slot where
  point : PointId
  use : Use
  locked : Bool
  dirty : Bool
  minute : Nat
  win : WindowRecord
  deriving DecidableEq, Repr

/-- A way of a set. -/
inductive Way where
  | zero | one
  deriving DecidableEq, Repr

/-- A set of the point table: its two ways and its LRU mark, the way it names (R39, R40). -/
structure PointSet where
  way0 : Option Slot
  way1 : Option Slot
  lru : Way
  deriving DecidableEq, Repr

/-- The states of a period slot (R77). -/
inductive PeriodState where
  | empty | retired | waiting | pending | inForce
  deriving DecidableEq, Repr

/-- How a period left the controller's hands (R76). -/
inductive PeriodOutcome where
  | none | ended | cutShort | skipped | rejected | withdrawn
  deriving DecidableEq, Repr

/-- One slot of the period ring (R76) with its validated mark (R77). -/
structure Period where
  state : PeriodState
  start : Nat
  stop : Nat
  zones : BitVec 8
  stages : BitVec 4
  permits : BitVec 4
  short : Nat
  long : Nat
  k : Nat
  ceiling : Nat
  fade : Nat
  margin : Nat
  outcome : PeriodOutcome
  exceed : Nat
  worst : Option Int
  validated : Bool
  deriving DecidableEq, Repr

/-- An EMPTY slot, every field zero (R100). -/
def Period.empty : Period :=
  { state := .empty, start := 0, stop := 0, zones := 0, stages := 0, permits := 0, short := 0, long := 0,
    k := 0, ceiling := 0, fade := 0, margin := 0, outcome := .none, exceed := 0, worst := none,
    validated := false }

/-- The fallback record (R95). -/
structure Fallback where
  short : Nat
  long : Nat
  k : Nat
  ceiling : Nat
  permits : BitVec 4
  fade : Nat
  margin : Nat
  deriving DecidableEq, Repr

/-- The limit schedule (chapter 5). A holder of `none` is the fallback record (R81). -/
structure Schedule where
  periods : Vector Period 32
  walk : SlotIx
  stall : Bool
  zoneHolder : Vector (Option SlotIx) 8
  stageHolder : Vector (Option SlotIx) 4
  fallback : Fallback
  clockSet : Bool
  clock : Nat
  tickAt : Timer
  deriving DecidableEq, Repr

/-- The freeze state of a set's column; the freeze timer runs in FROZEN alone (6.4). -/
inductive Freeze where
  | active
  | frozen (expiry : Nat)
  | precaution
  deriving DecidableEq, Repr

/-- The control block: one row per stage, one column per set (chapter 6). -/
structure Control where
  coupling : Vector (Vector (Option Nat) 16) 4
  needs : Vector (Vector Nat 16) 4
  targets : Vector Nat 4
  freeze : Vector Freeze 16
  deriving DecidableEq, Repr

/-- The seven states of a gain engine (R123). -/
inductive EngineState where
  | withheld | opened | pulling | holding | easing | fading | silenced
  deriving DecidableEq, Repr

/-- The reduction and mute state of an order (R134). -/
structure Order where
  reduction : Nat
  mute : Bool
  deriving DecidableEq, Repr

/-- An order in the order log with the time at which its frame ended (R137, R138). -/
structure LoggedOrder where
  order : Order
  sentAt : Nat
  deriving DecidableEq, Repr

/-- A fade under way: its fade step, and the fade time it was computed from (R128, log entry 13). -/
structure Fade where
  step : Nat
  time : Nat
  deriving DecidableEq, Repr

/-- The record of one gain engine (R122). -/
structure Engine where
  state : EngineState
  applied : Nat
  target : Nat
  granted : Bool
  fadeTime : Nat
  fade : Option Fade
  attack : Nat
  release : Nat
  hold : Nat
  holdAt : Timer
  releaseAt : Timer
  stepAt : Nat
  due : Bool
  refreshAt : Timer
  seq : Byte
  last : Option Order
  log : List LoggedOrder
  misses : Nat
  matches_ : Nat
  notFollowing : Bool
  lastEcho : Option Echo
  deriving DecidableEq, Repr

/-- The order frame on the stage link (R134). -/
structure StageOrder where
  st : Stage
  seq : Byte
  order : Order
  deriving DecidableEq, Repr

/-- The stage link transmitter (R137): the frame on the line, and the stage whose order it sent last. -/
structure StageLink where
  line : Option StageOrder
  lastStage : Option Stage
  deriving DecidableEq, Repr

/-- The kinds of RESTART (R152). -/
inductive RestartKind where
  | full | enforcement
  deriving DecidableEq, Repr

/-- The frames of the console transmitter, told apart by what their end means (R153). -/
inductive TxKind where
  | reply | notice | record | exportEnd
  deriving DecidableEq, Repr

/-- A console frame's kind, sequence and body (R143). -/
structure ConFrame where
  kind : Byte
  seq : Byte
  body : List Byte
  deriving DecidableEq, Repr

/-- The frame on the console line. -/
structure TxFrame where
  what : TxKind
  frame : ConFrame
  deriving DecidableEq, Repr

/-- The console link (chapter 8): receiver, reply slot, the restart that the reply's end takes (R152),
and the frame on the transmit line. -/
structure Console where
  rx : RxState
  reply : Option ConFrame
  restart : Option RestartKind
  line : Option TxFrame
  deriving DecidableEq, Repr

/-- Cause of a POINT_CLOSED (R51). -/
inductive CloseCause where
  | evictedByReading | evictedByDeclaration | released
  deriving DecidableEq, Repr

/-- Cause of a METER_INPUT_SWITCH (R30). -/
inductive SwitchCause where
  | failover | revival | return_
  deriving DecidableEq, Repr

/-- The limit kind that dominates an excess (R17). -/
inductive LimitKind where
  | short | long | peak
  deriving DecidableEq, Repr

/-- Cause of a DARK_LEAVE, with its stage or set (R181). -/
inductive DarkCause where
  | stageLevel (st : Stage)
  | excess (set : SetIx)
  | disabled
  | restart
  deriving DecidableEq, Repr

/-- The counters of the bank (9.2): nine device counters by code, and three per zone. -/
inductive CounterId where
  | device (code : Fin 9)
  | overShort (zone : Zone)
  | overLong (zone : Zone)
  | peaks (zone : Zone)
  deriving DecidableEq, Repr

/-- The range an echo is compared with: least and greatest reduction before widening, and the mute
states its orders carried (R138). -/
structure EchoRange where
  least : Nat
  greatest : Nat
  unmuted : Bool
  muted : Bool
  deriving DecidableEq, Repr

/-- The notices with their fields (R160 and the rules it names). -/
inductive Notice where
  | exceedOnset (point : PointId) (use : Use) (kind : Option LimitKind) (x : Nat) (l1 pk : Option Nat)
  | exceedClear (point : PointId) (use : Use)
  | pointStale (point : PointId) (use : Use) (stamp : Option Word16)
  | pointFresh (point : PointId) (use : Use) (stamp : Word16)
  | pointClosed (point : PointId) (use : Use) (minute secs : Nat) (worstL1 worstPeak : Option Nat)
      (cause : CloseCause)
  | minuteDigest (point : PointId) (use : Use) (minute : MinuteRecord) (secs : Nat)
      (worstL1 worstPeak : Option Nat)
  | batteryLow (point : PointId) (use : Use)
  | meterInputSwitch (was is_ : Input) (cause : SwitchCause) (aliveA aliveB : Bool)
  | periodRetired (slot : SlotIx) (outcome : PeriodOutcome) (start stop : Nat) (zones : BitVec 8)
      (stages : BitVec 4) (exceed : Nat) (worst : Option Int) (clock : Option Nat)
  | scheduleStalled (walk : SlotIx) (state : PeriodState) (clock : Option Nat)
  | fadeStart (st : Stage) (applied fadeTime step : Nat)
  | stageSilenced (st : Stage) (fadeTime : Nat)
  | stageNotFollowing (st : Stage) (echo : Echo) (range : EchoRange) (last : Order)
  | counterHalf (counter : CounterId) (count : Nat)
  | darkEnter (metered : BitVec 4) (threshold darkTime : Nat)
  | darkLeave (cause : DarkCause)
  deriving DecidableEq, Repr

/-- An entry of the notice queue: the notice and the number given to it; kind and class follow from the
notice (R160, R161). -/
structure NoticeEntry where
  number : Byte
  notice : Notice
  deriving DecidableEq, Repr

/-- The counter bank (R166). -/
structure Counters where
  device : Vector Nat 9
  overShort : Vector Nat 8
  overLong : Vector Nat 8
  peaks : Vector Nat 8
  deriving DecidableEq, Repr

/-- The counters after every reset and restart (R166). -/
def Counters.zero : Counters :=
  { device := Vector.replicate 9 0, overShort := Vector.replicate 8 0, overLong := Vector.replicate 8 0,
    peaks := Vector.replicate 8 0 }

/-- The notice queue, the notice number the next notice is given, and the counter bank. -/
structure Reports where
  queue : List NoticeEntry
  number : Byte
  counters : Counters
  deriving DecidableEq, Repr

/-- The reports after every reset and restart (R165, R166). -/
def Reports.empty : Reports := { queue := [], number := 0, counters := Counters.zero }

/-- The modes of EXPORT (R169). -/
inductive ExportMode where
  | one | walk
  deriving DecidableEq, Repr

/-- One listed point of an export: the slot it is bound to, its intact mark, its base minute number,
which lies below 1 when it names a minute that was never closed (R169, R170). -/
structure ExportEntry where
  point : PointId
  set : SetIx
  way : Way
  intact : Bool
  base : Int
  deriving DecidableEq, Repr

/-- The export unit (9.3). The cursor counts the records of the export, list order first. -/
structure Exporter where
  running : Bool
  seq : Byte
  mode : ExportMode
  list : List ExportEntry
  span : Nat
  cursor : Nat
  abort : Bool
  sent : Nat
  deriving DecidableEq, Repr

/-- No export (R159, R171, R173). -/
def Exporter.idle : Exporter :=
  { running := false, seq := 0, mode := .one, list := [], span := 0, cursor := 0, abort := false,
    sent := 0 }

/-- The standby monitor (10.5). `lastL1` is what each stage's meter last handed on since it became the
meter (R107, R180). -/
structure Standby where
  enable : Bool
  threshold : Nat
  darkTime : Nat
  dark : Bool
  timer : Timer
  quiet : Vector Bool 4
  lastL1 : Vector (Option Nat) 4
  deriving DecidableEq, Repr

/-- The standby monitor after power-on, pin reset and full restart (R179). -/
def Standby.start : Standby :=
  { enable := false, threshold := 450, darkTime := 600, dark := false, timer := none,
    quiet := Vector.replicate 4 true, lastL1 := Vector.replicate 4 none }

/-- The two resets that can hold the part (R175). -/
structure ResetHold where
  /-- RESET_N is low. -/
  pin : Bool
  /-- The supply is below its operating range, or the crystal is starting. -/
  supply : Bool
  deriving DecidableEq, Repr

/-- The whole part. -/
structure State where
  hold : ResetHold
  straps : Straps
  now : Nat
  freshAt : Nat
  meter : MeterUnit
  readings : ReadingQueue
  points : Vector PointSet 16
  sched : Schedule
  control : Control
  engines : Vector Engine 4
  link : StageLink
  console : Console
  reports : Reports
  exporter : Exporter
  standby : Standby
  pending : List Instr
  deriving DecidableEq, Repr

/-- The reasons a step can stop with a fault: none. The spec names no event that stops the part. -/
inductive Fault where
  deriving DecidableEq, Repr

/-- The reasons a command can have no meaning. -/
inductive Refusal where
  /-- `exec` raises it for a command that has no meaning yet; safe: the run stops. -/
  | notModelled (mnemonic : String)
  deriving DecidableEq, Repr

/-- The reset value of a gain engine in a RUN mode (R122). -/
def Engine.reset : Engine :=
  { state := .opened, applied := 0, target := 0, granted := true, fadeTime := 120, fade := none,
    attack := 20, release := 5, hold := 10, holdAt := none, releaseAt := none,
    stepAt := Config.stepPeriod, due := true, refreshAt := none, seq := 0, last := none, log := [],
    misses := 0, matches_ := 0, notFollowing := false, lastEcho := none }

/-- The fallback record of the RUN and HELD modes (R95). -/
def Fallback.reset : Fallback :=
  { short := 750, long := 700, k := 15, ceiling := 1250, permits := 0b1111#4, fade := 120, margin := 30 }

/-- The part right after reset (R175 and the chapters' own reset rules), with every strap at level 0:
9600 bit/s, fixed A, RUN, 2 s (DESIGN CHOICE, unsafe, log entry 1). -/
def State.reset : State :=
  { hold := { pin := false, supply := false }
    straps := { rate := 0, pref := 0, mode := 0, stale := 0 }
    now := 0
    freshAt := Config.freshPeriod
    meter :=
      { rx := { a := .hunt, b := .hunt }, alive := { a := none, b := none }, active := .a,
        returnAt := none }
    readings := { queue := [], holding := none }
    points := Vector.replicate 16 { way0 := none, way1 := none, lru := .zero }
    sched :=
      { periods := Vector.replicate 32 Period.empty, walk := 0, stall := false,
        zoneHolder := Vector.replicate 8 none, stageHolder := Vector.replicate 4 none,
        fallback := Fallback.reset, clockSet := false, clock := 0, tickAt := none }
    control :=
      { coupling := Vector.replicate 4 (Vector.replicate 16 none),
        needs := Vector.replicate 4 (Vector.replicate 16 0), targets := Vector.replicate 4 0,
        freeze := Vector.replicate 16 .active }
    engines := Vector.replicate 4 Engine.reset
    link := { line := none, lastStage := none }
    console := { rx := .hunt, reply := none, restart := none, line := none }
    reports := Reports.empty
    exporter := Exporter.idle
    standby := Standby.start
    pending := [] }

end Sys2Proof.Machine
end

