-- ==== Sys2Proof/Machine/Frames.lean ====
section
/-! DEFINITION. Bytes on the lines: byte order, the frame check (00 Frame check), the meter reading frame
(R19), the console frame (R143), the stage order frame (R134), and the encoding of the fields of notices
and replies (R164). -/

namespace Sys2Proof.Machine

/-! ### Byte order: little-endian (00 Frames and fields) -/

/-- A one-byte field. -/
def u8 (n : Nat) : List Byte := [BitVec.ofNat 8 n]

/-- A two-byte field. -/
def u16 (n : Nat) : List Byte := [BitVec.ofNat 8 n, BitVec.ofNat 8 (n / 256)]

/-- A four-byte field. -/
def u32 (n : Nat) : List Byte := u16 n ++ u16 (n / 65536)

/-- An eight-byte field. -/
def u64 (n : Nat) : List Byte := u32 n ++ u32 (n / 4294967296)

/-- The value of two bytes, lower offset first. -/
def le16 (lo hi : Byte) : Nat := lo.toNat + 256 * hi.toNat

/-- The value of four bytes, lowest offset first. -/
def le32 (b0 b1 b2 b3 : Byte) : Nat := le16 b0 b1 + 65536 * le16 b2 b3

/-- Two bytes as a 16-bit field, lower offset first. -/
def word16 (lo hi : Byte) : Word16 := hi ++ lo

/-- The low and high byte of a 16-bit field. -/
def lowByte (w : Word16) : Byte := w.extractLsb' 0 8
def highByte (w : Word16) : Byte := w.extractLsb' 8 8

/-- A 16-bit field as its bytes. -/
def wordBytes (w : Word16) : List Byte := [lowByte w, highByte w]

/-! ### The frame check (00 Frame check) -/

/-- One bit of the check: x^16 + x^12 + x^5 + 1, most significant bit first. -/
def crcBit (c : Word16) : Word16 := if c.msb then (c <<< 1) ^^^ 0x1021#16 else c <<< 1

/-- One byte of the check. -/
def crcByte (c : Word16) (b : Byte) : Word16 :=
  crcBit (crcBit (crcBit (crcBit (crcBit (crcBit (crcBit (crcBit (c ^^^ (b ++ 0#8)))))))))

/-- The check of some bytes, from 0xFFFF. -/
def crc16 (bs : List Byte) : Word16 := bs.foldl crcByte 0xFFFF#16

/-! ### The meter reading frame (R19) -/

/-- Bytes 1 to 12 of a frame: kind to the last echo byte. -/
def meterCovered (f : MeterFrame) : List Byte :=
  [0x01#8] ++ wordBytes f.pointWord ++ wordBytes f.stamp ++ wordBytes f.level ++ wordBytes f.peak ++
    [f.flags] ++ wordBytes f.echo

/-- The fifteen bytes of a valid frame. -/
def meterBytes (f : MeterFrame) : List Byte :=
  [0xA5#8] ++ meterCovered f ++ wordBytes (crc16 (meterCovered f))

/-- The two tests of R22 on fifteen bytes: the fields of a valid frame, or none for a bad one. -/
def readMeterFrame (bs : List Byte) : Option MeterFrame :=
  match bs with
  | [_, k, p0, p1, s0, s1, l0, l1, c0, c1, fl, e0, e1, x0, x1] =>
    if crc16 [k, p0, p1, s0, s1, l0, l1, c0, c1, fl, e0, e1] = word16 x0 x1 ∧ k = 0x01#8 then
      some { pointWord := word16 p0 p1, stamp := word16 s0 s1, level := word16 l0 l1,
             peak := word16 c0 c1, flags := fl, echo := word16 e0 e1 }
    else none
  | _ => none

/-! ### The console frame (R143) and the stage order frame (R134) -/

/-- Bytes 1 to 3+L of a console frame. -/
def ConFrame.covered (f : ConFrame) : List Byte :=
  [BitVec.ofNat 8 f.body.length, f.kind, f.seq] ++ f.body

/-- The bytes of a console frame. -/
def ConFrame.bytes (f : ConFrame) : List Byte :=
  [0x7E#8] ++ f.covered ++ wordBytes (crc16 f.covered)

/-- The check of R147 on the 6 + L bytes of a complete frame: its kind, sequence and body. -/
def readConFrame (bs : List Byte) : Option ConFrame :=
  match bs with
  | _ :: l :: kind :: seq :: rest =>
    let body := rest.take l.toNat
    if wordBytes (crc16 ([l, kind, seq] ++ body)) = rest.drop l.toNat then
      some { kind := kind, seq := seq, body := body }
    else none
  | _ => none

/-- Bytes 1 to 5 of a stage order frame. -/
def StageOrder.covered (o : StageOrder) : List Byte :=
  u8 o.st.val ++ [o.seq] ++ u16 o.order.reduction ++ u8 (if o.order.mute then 1 else 0)

/-- The eight bytes of a stage order frame. -/
def StageOrder.bytes (o : StageOrder) : List Byte :=
  [0xC3#8] ++ o.covered ++ wordBytes (crc16 o.covered)

/-! ### Fields of notices and replies (R164) -/

/-- A two-valued field. -/
def flag (b : Bool) : List Byte := u8 (if b then 1 else 0)

/-- A code of two bytes, 65535 for none. -/
def opt16 (v : Option Nat) : List Byte := u16 (v.getD 65535)

/-- A long level at close: 65534 for insufficient, 65533 for not computed. -/
def longBytes (l : LongLevel) : List Byte :=
  match l with
  | .code c => u16 c
  | .insufficient => u16 65534
  | .notComputed => u16 65533

/-- Headroom: two's complement, −32768 for none. -/
def headroomBytes (h : Option Int) : List Byte := wordBytes (BitVec.ofInt 16 (h.getD (-32768)))

/-- An optional stamp: a presence byte, then the stamp or zeros. -/
def optStamp (v : Option Word16) : List Byte :=
  match v with
  | some w => u8 1 ++ wordBytes w
  | none => u8 0 ++ u16 0

/-- An optional clock value: a presence byte, then the value or zeros. -/
def optClock (v : Option Nat) : List Byte :=
  match v with
  | some c => u8 1 ++ u32 c
  | none => u8 0 ++ u32 0

/-- Marks: bit i for entry i. -/
def marks (bs : List Bool) : Nat := (bs.zipIdx.map fun p => if p.1 then 2 ^ p.2 else 0).sum

/-- The role codes of 3.1. -/
def Use.roleCode (u : Use) : Nat :=
  match u with
  | .boundary _ => 0
  | .foh _ => 1
  | .stage _ => 2
  | .roaming _ => 3

/-- The zone or stage of a use. -/
def Use.place (u : Use) : Nat :=
  match u with
  | .boundary z => z.val
  | .foh z => z.val
  | .stage s => s.val
  | .roaming z => z.val

/-- Role and zone or stage. -/
def useBytes (u : Use) : List Byte := u8 u.roleCode ++ u8 u.place

/-- The inputs are A 0 and B 1. -/
def inputCode (i : Input) : Nat :=
  match i with
  | .a => 0
  | .b => 1

/-- The limit kinds are SHORT 0, LONG 1 and PEAK 2; a kind of none (excess 0) is not sent. -/
def kindCode (k : Option LimitKind) : Nat :=
  match k with
  | some .short => 0
  | some .long => 1
  | some .peak => 2
  | none => 255

/-- The codes of the period states (R77). -/
def PeriodState.code (p : PeriodState) : Nat :=
  match p with
  | .empty => 0
  | .retired => 1
  | .waiting => 2
  | .pending => 3
  | .inForce => 4

/-- A slot is CONTROLLER-owned while WAITING, PENDING or IN_FORCE (R77). -/
def PeriodState.controller (p : PeriodState) : Bool :=
  match p with
  | .empty => false
  | .retired => false
  | .waiting => true
  | .pending => true
  | .inForce => true

/-- The codes of the period outcomes (R76). -/
def PeriodOutcome.code (o : PeriodOutcome) : Nat :=
  match o with
  | .none => 0
  | .ended => 1
  | .cutShort => 2
  | .skipped => 3
  | .rejected => 4
  | .withdrawn => 5

/-- The codes of the engine states (R123). -/
def EngineState.code (e : EngineState) : Nat :=
  match e with
  | .withheld => 0
  | .opened => 1
  | .pulling => 2
  | .holding => 3
  | .easing => 4
  | .fading => 5
  | .silenced => 6

/-- The codes of the freeze states (R140). -/
def Freeze.code (f : Freeze) : Nat :=
  match f with
  | .active => 0
  | .frozen _ => 1
  | .precaution => 2

/-- The codes of the counters (9.2). -/
def CounterId.code (c : CounterId) : Nat :=
  match c with
  | .device d => d.val
  | .overShort _ => 16
  | .overLong _ => 17
  | .peaks _ => 18

/-- The zone of a zone counter, 255 for a device counter (R167). -/
def CounterId.zoneCode (c : CounterId) : Nat :=
  match c with
  | .device _ => 255
  | .overShort z => z.val
  | .overLong z => z.val
  | .peaks z => z.val

/-- Cause, stage or 255, set or 255 of a DARK_LEAVE (R181). -/
def darkCauseBytes (c : DarkCause) : List Byte :=
  match c with
  | .stageLevel s => u8 0 ++ u8 s.val ++ u8 255
  | .excess p => u8 1 ++ u8 255 ++ u8 p.val
  | .disabled => u8 2 ++ u8 255 ++ u8 255
  | .restart => u8 3 ++ u8 255 ++ u8 255

/-- The causes of POINT_CLOSED (R164). -/
def CloseCause.code (c : CloseCause) : Nat :=
  match c with
  | .evictedByReading => 0
  | .evictedByDeclaration => 1
  | .released => 2

/-- The causes of METER_INPUT_SWITCH (R164). -/
def SwitchCause.code (c : SwitchCause) : Nat :=
  match c with
  | .failover => 0
  | .revival => 1
  | .return_ => 2

/-- The range of R138: least and greatest before widening, the allowed mute states; 65535 for none
(R140). -/
def rangeBytes (r : Option EchoRange) : List Byte :=
  match r with
  | some r => u16 r.least ++ u16 r.greatest ++ u8 (marks [r.unmuted, r.muted])
  | none => u16 65535 ++ u16 65535 ++ u8 0

/-- An order or echo: reduction and mute, 65535 for none (R140). -/
def orderBytes (o : Option Order) : List Byte :=
  match o with
  | some o => u16 o.reduction ++ flag o.mute
  | none => u16 65535 ++ u8 0

/-- An echo, laid out as an order (R140). -/
def echoBytes (e : Option Echo) : List Byte :=
  match e with
  | some e => u16 e.reduction ++ flag e.mute
  | none => u16 65535 ++ u8 0

/-! ### Notices (R154, R160) -/

/-- The kind code of a notice (R160). -/
def Notice.kind (n : Notice) : Byte :=
  match n with
  | .exceedOnset .. => 0x40
  | .exceedClear .. => 0x41
  | .pointStale .. => 0x42
  | .pointFresh .. => 0x43
  | .pointClosed .. => 0x44
  | .minuteDigest .. => 0x45
  | .batteryLow .. => 0x46
  | .meterInputSwitch .. => 0x47
  | .periodRetired .. => 0x48
  | .scheduleStalled .. => 0x49
  | .fadeStart .. => 0x4A
  | .stageSilenced .. => 0x4B
  | .stageNotFollowing .. => 0x4C
  | .counterHalf .. => 0x4D
  | .darkEnter .. => 0x4E
  | .darkLeave .. => 0x4F

/-- The body of a notice: its fields in the order its rule lists them (R164). -/
def Notice.body (n : Notice) : List Byte :=
  match n with
  | .exceedOnset p u k x l1 pk =>
    u16 p.val ++ useBytes u ++ u8 (kindCode k) ++ u16 x ++ opt16 l1 ++ opt16 pk
  | .exceedClear p u => u16 p.val ++ useBytes u
  | .pointStale p u st => u16 p.val ++ useBytes u ++ optStamp st
  | .pointFresh p u st => u16 p.val ++ useBytes u ++ wordBytes st
  | .pointClosed p u m secs l1 pk c =>
    u16 p.val ++ useBytes u ++ u32 m ++ u16 secs ++ opt16 l1 ++ opt16 pk ++ u8 c.code
  | .minuteDigest p u m secs l1 pk =>
    u16 p.val ++ u8 u.place ++ u32 m.number ++ opt16 m.leq ++ longBytes m.long ++ u8 m.count ++
      opt16 m.peak ++ flag m.thin ++ u8 m.cal ++ u8 m.clip ++ flag m.overrun ++ u16 secs ++ opt16 l1 ++
      opt16 pk
  | .batteryLow p u => u16 p.val ++ useBytes u
  | .meterInputSwitch was is_ c a b => u8 (inputCode was) ++ u8 (inputCode is_) ++ u8 c.code ++ u8 (marks [a, b])
  | .periodRetired i o s e z st x w c =>
    u8 i.val ++ u8 o.code ++ u32 s ++ u32 e ++ u8 z.toNat ++ u8 st.toNat ++ u16 x ++ headroomBytes w ++
      optClock c
  | .scheduleStalled w st c =>
    u8 w.val ++ flag st.controller ++ u8 st.code ++ optClock c
  | .fadeStart s a t k => u8 s.val ++ u16 a ++ u16 t ++ u8 k
  | .stageSilenced s t => u8 s.val ++ u16 t
  | .stageNotFollowing s e r l =>
    u8 s.val ++ echoBytes (some e) ++ rangeBytes (some r) ++ orderBytes (some l)
  | .counterHalf c v => u8 c.code ++ u8 c.zoneCode ++ u16 v
  | .darkEnter m t d => u8 m.toNat ++ u16 t ++ u16 d
  | .darkLeave c => darkCauseBytes c

/-- The frame of a notice: its kind, its number as the sequence byte, its fields (R154). -/
def NoticeEntry.frame (e : NoticeEntry) : ConFrame :=
  { kind := e.notice.kind, seq := e.number, body := e.notice.body }

end Sys2Proof.Machine
end

