-- ==== Sys2Proof/Machine/Ops.lean ====
section
/-! DEFINITION. Operations that several blocks share: reading and writing parts of the state, the time
base, the notice queue with its classes (9.1), the counter bank (9.2), and look-ups in the point table
(3.1). Every notice is offered here and every counter is incremented here. -/

namespace Sys2Proof.Machine

/-! ### Parts of the state -/

/-- The other meter input. -/
def otherInput (i : Input) : Input :=
  match i with
  | .a => .b
  | .b => .a

/-- The value of one input. -/
def PerInput.get {α : Type} (p : PerInput α) (i : Input) : α :=
  match i with
  | .a => p.a
  | .b => p.b

/-- Writes the value of one input. -/
def PerInput.put {α : Type} (p : PerInput α) (i : Input) (x : α) : PerInput α :=
  match i with
  | .a => { p with a := x }
  | .b => { p with b := x }

/-- The other way of a set. -/
def Way.other (w : Way) : Way :=
  match w with
  | .zero => .one
  | .one => .zero

/-- The number of a way. -/
def Way.code (w : Way) : Nat :=
  match w with
  | .zero => 0
  | .one => 1

/-- What stands in a way of a set. -/
def PointSet.get (ps : PointSet) (w : Way) : Option Slot :=
  match w with
  | .zero => ps.way0
  | .one => ps.way1

/-- Writes a way of a set. -/
def PointSet.put (ps : PointSet) (w : Way) (x : Option Slot) : PointSet :=
  match w with
  | .zero => { ps with way0 := x }
  | .one => { ps with way1 := x }

/-- Touching a way makes the LRU mark name the other way (R40). -/
def PointSet.touch (ps : PointSet) (w : Way) : PointSet := { ps with lru := w.other }

/-- The slot in a way of a set of the point table, or none when it is free. -/
def State.slotAt (s : State) (p : SetIx) (w : Way) : Option Slot := (s.points[p]).get w

/-- Writes a way of a set of the point table. -/
def State.putSlot (s : State) (p : SetIx) (w : Way) (x : Option Slot) : State :=
  { s with points := s.points.set p ((s.points[p]).put w x) }

/-- Touches a way of a set of the point table (R40). -/
def State.touch (s : State) (p : SetIx) (w : Way) : State :=
  { s with points := s.points.set p ((s.points[p]).touch w) }

/-- Stage st's gain engine. -/
def State.engine (s : State) (st : Stage) : Engine := s.engines[st]

/-- Writes stage st's gain engine. -/
def State.putEngine (s : State) (st : Stage) (e : Engine) : State :=
  { s with engines := s.engines.set st e }

/-- The time base has reached time t (log entry 2). -/
def State.reach (s : State) (t : Nat) : State := { s with now := max s.now t }

/-- Either reset holds the part (R175). -/
def State.held (s : State) : Bool := s.hold.pin || s.hold.supply

/-! ### The counter bank (R166, R167) -/

/-- A counter's maximum: 255 for the 8-bit peak events, else 65535 (R166). -/
def CounterId.max (c : CounterId) : Nat :=
  match c with
  | .device _ => 65535
  | .overShort _ => 65535
  | .overLong _ => 65535
  | .peaks _ => 255

/-- A counter's midpoint (R167). -/
def CounterId.mid (c : CounterId) : Nat :=
  match c with
  | .device _ => 32768
  | .overShort _ => 32768
  | .overLong _ => 32768
  | .peaks _ => 128

/-- The value of a counter. -/
def Counters.get (b : Counters) (c : CounterId) : Nat :=
  match c with
  | .device d => b.device[d]
  | .overShort z => b.overShort[z]
  | .overLong z => b.overLong[z]
  | .peaks z => b.peaks[z]

/-- Writes a counter. -/
def Counters.put (b : Counters) (c : CounterId) (v : Nat) : Counters :=
  match c with
  | .device d => { b with device := b.device.set d v }
  | .overShort z => { b with overShort := b.overShort.set z v }
  | .overLong z => { b with overLong := b.overLong.set z v }
  | .peaks z => { b with peaks := b.peaks.set z v }

/-- The device counters by name (9.2). -/
def badFrames (i : Input) : CounterId := .device (match i with | .a => 0 | .b => 1)
def duplicates : CounterId := .device 2
def lateReadings : CounterId := .device 3
def overruns : CounterId := .device 4
def noSlotRefusals : CounterId := .device 5
def tableBusyRefusals : CounterId := .device 6
def noticesDropped : CounterId := .device 7
def unattributed : CounterId := .device 8

/-! ### The notice queue (R160 to R162) -/

/-- The classes of notices (R160). -/
inductive NoticeClass where
  | urgent | routine | record
  deriving DecidableEq, Repr

/-- The class of a notice (R160). -/
def Notice.cls (n : Notice) : NoticeClass :=
  match n with
  | .exceedOnset .. => .urgent
  | .exceedClear .. => .routine
  | .pointStale .. => .urgent
  | .pointFresh .. => .routine
  | .pointClosed .. => .record
  | .minuteDigest .. => .routine
  | .batteryLow .. => .routine
  | .meterInputSwitch .. => .routine
  | .periodRetired .. => .record
  | .scheduleStalled .. => .urgent
  | .fadeStart .. => .urgent
  | .stageSilenced .. => .urgent
  | .stageNotFollowing .. => .urgent
  | .counterHalf .. => .routine
  | .darkEnter .. => .routine
  | .darkLeave .. => .routine

/-- A queue entry of the routine class. -/
def NoticeEntry.routine (e : NoticeEntry) : Bool := e.notice.cls == .routine

/-- The queue holds 48 entries (R161). -/
def Reports.full (r : Reports) : Bool := 48 ≤ r.queue.length

/-- The queue holds a routine entry. -/
def Reports.hasRoutine (r : Reports) : Bool := r.queue.any (·.routine)

/-- The notice is given the notice number and joins the tail (R161). -/
def Reports.join (r : Reports) (n : Notice) : Reports :=
  { r with queue := r.queue ++ [{ number := r.number, notice := n }], number := r.number + 1 }

/-- A notice dropped on offer is still given the notice number (R162). -/
def Reports.passOver (r : Reports) : Reports := { r with number := r.number + 1 }

/-- The routine entry nearest the head is removed (R162). -/
def Reports.displace (r : Reports) : Reports := { r with queue := r.queue.eraseP (·.routine) }

/-- One increment of the counter of notices dropped (R162). At its midpoint it offers COUNTER_HALF, and
that offer, dropped from a full queue, raises the counter to 32769 and offers nothing more (R167). -/
def Reports.countDrop (r : Reports) : Reports :=
  let v := r.counters.get noticesDropped
  if noticesDropped.max ≤ v then r
  else
    let r1 := { r with counters := r.counters.put noticesDropped (v + 1) }
    if v + 1 = noticesDropped.mid then
      if r1.full then { r1.passOver with counters := r.counters.put noticesDropped (v + 2) }
      else r1.join (.counterHalf noticesDropped (v + 1))
    else r1

/-- A notice is offered to the queue (R161, R162). POINT_CLOSED is offered by `offerClosed`. -/
def Reports.offer (r : Reports) (n : Notice) : Reports :=
  if r.full = false then r.join n
  else if n.cls ≠ .routine ∧ r.hasRoutine = true then (r.displace.join n).countDrop
  else r.passOver.countDrop

/-- A POINT_CLOSED is offered; none when the full queue without a routine entry refuses it back, with
no number given and nothing counted (R162). -/
def Reports.offerClosed (r : Reports) (n : Notice) : Option Reports :=
  if r.full = false then some (r.join n)
  else if r.hasRoutine = true then some (r.displace.join n).countDrop
  else none

/-- One increment requested of a counter other than that of notices dropped (R166, R167). -/
def Reports.count (r : Reports) (c : CounterId) : Reports :=
  let v := r.counters.get c
  if c.max ≤ v then r
  else
    let r1 := { r with counters := r.counters.put c (v + 1) }
    if v + 1 = c.mid then r1.offer (.counterHalf c (v + 1)) else r1

/-- A block offers a notice. -/
def State.offer (s : State) (n : Notice) : State := { s with reports := s.reports.offer n }

/-- A block offers several notices, in the order of its rules (R161). -/
def State.offers (s : State) (ns : List Notice) : State :=
  { s with reports := ns.foldl Reports.offer s.reports }

/-- A block requests one increment. -/
def State.count (s : State) (c : CounterId) : State := { s with reports := s.reports.count c }

/-! ### Look-ups in the point table (R39, R41, R42) -/

/-- The set of a point id: p mod 16 (R39). -/
def setOf (p : PointId) : SetIx := ⟨p.val % 16, Nat.mod_lt _ (by decide)⟩

/-- The way holds the point. -/
def PointSet.holds (ps : PointSet) (w : Way) (p : PointId) : Bool :=
  match ps.get w with
  | some sl => sl.point == p
  | none => false

/-- The way of its set in which a point stands, if any (R39). -/
def PointSet.find (ps : PointSet) (p : PointId) : Option Way :=
  if ps.holds .zero p then some .zero else if ps.holds .one p then some .one else none

/-- The slot of a point, if the table holds it. -/
def State.slotOf (s : State) (p : PointId) : Option Slot :=
  match (s.points[setOf p]).find p with
  | some w => s.slotAt (setOf p) w
  | none => none

/-- The roles measured against a zone and evaluated: BOUNDARY and FOH. -/
def Use.fixed (u : Use) : Bool :=
  match u with
  | .boundary _ => true
  | .foh _ => true
  | .stage _ => false
  | .roaming _ => false

/-- The role STAGE. -/
def Use.isStage (u : Use) : Bool :=
  match u with
  | .boundary _ => false
  | .foh _ => false
  | .stage _ => true
  | .roaming _ => false

/-- The role ROAMING. -/
def Use.isRoaming (u : Use) : Bool :=
  match u with
  | .boundary _ => false
  | .foh _ => false
  | .stage _ => false
  | .roaming _ => true

/-- The zone of a BOUNDARY, FOH or ROAMING point. -/
def Use.zone (u : Use) : Option Zone :=
  match u with
  | .boundary z => some z
  | .foh z => some z
  | .stage _ => none
  | .roaming z => some z

/-- The slot is stage st's meter (R41). -/
def Slot.isMeter (sl : Slot) (st : Stage) : Bool :=
  match sl.use with
  | .boundary _ => false
  | .foh _ => false
  | .stage t => t == st
  | .roaming _ => false

/-- The slots of a set, way 0 first. -/
def PointSet.slots (ps : PointSet) : List Slot := ps.way0.toList ++ ps.way1.toList

/-- Every valid slot of the table, in set order. -/
def State.slots (s : State) : List Slot := allSets.flatMap fun p => (s.points[p]).slots

/-- Stage st's meter, if a point is declared STAGE for it (R41). -/
def State.meterSlot (s : State) (st : Stage) : Option Slot := s.slots.find? (·.isMeter st)

/-- Stage st has a stage meter. -/
def State.hasMeter (s : State) (st : Stage) : Bool := (s.meterSlot st).isSome

/-- The point that owns a set's column: the locked BOUNDARY or FOH point of way 1 (R42). -/
def PointSet.owner (ps : PointSet) : Option PointId :=
  match ps.way1 with
  | some sl => if sl.locked && sl.use.fixed then some sl.point else none
  | none => none

end Sys2Proof.Machine
end

