-- ==== Sys2Proof/Machine/Gain.lean ====
section
/-! DEFINITION. The stage gain engines and the stage link (chapter 7): following the target, the hold and
release timers, fades and mutes, orders, and the echo check. An engine operation that offers notices
answers them beside the new record, in order. -/

namespace Sys2Proof.Machine

/-- OPEN, PULLING, HOLDING and EASING: the limiting class (R123). -/
def EngineState.limiting (x : EngineState) : Bool :=
  match x with
  | .withheld => false
  | .opened => true
  | .pulling => true
  | .holding => true
  | .easing => true
  | .fading => false
  | .silenced => false

/-- The hold timer is restarted; a hold time of 0 stops it at once (R126). -/
def Engine.restartHold (e : Engine) (now : Nat) : Engine :=
  { e with holdAt := if e.hold = 0 then none else some (now + e.hold * Config.second) }

/-- Entry to EASING starts the release timer (R126). -/
def Engine.ease (e : Engine) (now : Nat) : Engine :=
  { e with state := .easing, releaseAt := some (now + Config.second) }

/-- HOLDING, or EASING at once when the target lies below the reduction and the hold timer is stopped
(R126). -/
def Engine.toHolding (e : Engine) (now : Nat) : Engine :=
  if e.target < e.applied ∧ e.holdAt = none then e.ease now else { e with state := .holding }

/-- PULLING with the hold timer restarted and the release timer stopped (R124, R126). -/
def Engine.pull (e : Engine) (now : Nat) : Engine :=
  { e.restartHold now with state := .pulling, releaseAt := none }

/-- The target is reached: OPEN at 0, HOLDING otherwise; the release timer is stopped (R124, R127). -/
def Engine.reached (e : Engine) : Engine :=
  { e with state := if e.target = 0 then .opened else .holding, releaseAt := none }

/-- The control block tells the engine a target (R124). -/
def Engine.tell (e0 : Engine) (now t : Nat) : Engine :=
  let e := { e0 with target := t }
  match e.state with
  | .opened => if e.applied < t then e.pull now else e
  | .pulling =>
    if e.applied < t then e.restartHold now
    else if t = e.applied then e.reached
    else e.toHolding now
  | .holding => if e.applied < t then e.pull now else if t = e.applied then e else e.toHolding now
  | .easing => if e.applied < t then e.pull now else if t = e.applied then e.reached else e
  | .withheld => e
  | .fading => e
  | .silenced => e

/-- The fade step of a fade from reduction a over `time` seconds (R128). -/
def fadeStepFor (a time : Nat) : Nat := max 1 ((300 - a + time * 10 - 1) / (time * 10))

/-- The fade has reached 300: SILENCED, muted, an order due, STAGE_SILENCED with the fade time of the
fade just finished (R129, log entry 13). -/
def Engine.silence (e : Engine) (st : Stage) : Engine × List Notice :=
  let time := match e.fade with | some f => f.time | none => e.fadeTime
  ({ e with state := .silenced, applied := 300, fade := none, due := true }, [.stageSilenced st time])

/-- A fade begins, and ends at its start when the reduction is 300 already (R128). -/
def Engine.startFade (e : Engine) (st : Stage) : Engine × List Notice :=
  let step := fadeStepFor e.applied e.fadeTime
  let f : Engine :=
    { e with state := .fading, fade := some { step := step, time := e.fadeTime }, holdAt := none,
             releaseAt := none }
  let start : Notice := .fadeStart st e.applied e.fadeTime step
  if e.applied = 300 then
    let (g, ns) := f.silence st
    (g, start :: ns)
  else (f, [start])

/-- A grant ends a fade where it stands (R130). -/
def Engine.endFade (e : Engine) (now : Nat) : Engine :=
  let f := { e with fade := none }.restartHold now
  if f.applied < f.target then { f with state := .pulling }
  else if f.applied = 0 then { f with state := .opened }
  else f.toHolding now

/-- A grant unmutes a silenced stage without a jump (R131). -/
def Engine.unmute (e : Engine) (now : Nat) : Engine :=
  ({ e with due := true }.restartHold now).toHolding now

/-- The limit schedule tells the engine a permission and a fade time (R128, R130, R131). -/
def Engine.permit (e0 : Engine) (now : Nat) (st : Stage) (granted : Bool) (fadeTime : Nat) :
    Engine × List Notice :=
  let e := { e0 with granted := granted, fadeTime := fadeTime }
  match granted, e0.state with
  | _, .withheld => (e, [])
  | false, .opened => e.startFade st
  | false, .pulling => e.startFade st
  | false, .holding => e.startFade st
  | false, .easing => e.startFade st
  | false, .fading => (e, [])
  | false, .silenced => (e, [])
  | true, .opened => (e, [])
  | true, .pulling => (e, [])
  | true, .holding => (e, [])
  | true, .easing => (e, [])
  | true, .fading => (e.endFade now, [])
  | true, .silenced => (e.unmute now, [])

/-- The engine's part of a step timer tick: an attack step in PULLING (R125), a fade step in FADING
(R129), nothing in any other state. -/
def Engine.stepTick (e : Engine) (st : Stage) : Engine × List Notice :=
  match e.state with
  | .pulling =>
    let a := e.applied + min e.attack (e.target - e.applied)
    let f := { e with applied := a, due := e.due || (a != e.applied) }
    (if a = e.target then { f with state := .holding } else f, [])
  | .fading =>
    let step := match e.fade with | some f => f.step | none => 1
    let a := min 300 (e.applied + step)
    if a = 300 then e.silence st
    else ({ e with applied := a, due := e.due || (a != e.applied) }, [])
  | .withheld => (e, [])
  | .opened => (e, [])
  | .holding => (e, [])
  | .easing => (e, [])
  | .silenced => (e, [])

/-- The hold timer expires (R126). -/
def Engine.holdExpiry (e : Engine) (now : Nat) : Engine :=
  let f := { e with holdAt := none }
  match f.state with
  | .holding => if f.target < f.applied then f.ease now else f
  | .withheld => f
  | .opened => f
  | .pulling => f
  | .easing => f
  | .fading => f
  | .silenced => f

/-- The release timer's tick that was due at time `due`, in EASING; the next is due one second after it
(R127). -/
def Engine.releaseTick (e : Engine) (due : Nat) : Engine :=
  match e.state with
  | .easing =>
    let a := e.applied - min e.release (e.applied - e.target)
    let f := { e with applied := a, due := e.due || (a != e.applied),
                      releaseAt := some (due + Config.second) }
    if a = e.target then f.reached else f
  | .withheld => e
  | .opened => e
  | .pulling => e
  | .holding => e
  | .fading => e
  | .silenced => e

/-- START releases a WITHHELD engine: a fade from 0 when its permission is denied, otherwise OPEN with
its stored target told; an order is due in both cases (R132). -/
def Engine.takeControl (e : Engine) (now : Nat) (st : Stage) : Engine × List Notice :=
  let d := { e with due := true }
  if d.granted = false then d.startFade st
  else ({ d with state := .opened }.tell now d.target, [])

/-- Mute in an order: SILENCED alone (R134). -/
def Engine.order (e : Engine) : Order :=
  { reduction := e.applied, mute := e.state == .silenced }

/-- An engine's refresh timer length: 1 s, or 10 s while dark (R136). -/
def refreshTime (dark : Bool) : Nat := if dark then 10 * Config.second else Config.second

/-- The orders whose frames ended within the 2 s before `now` (R138, log entry 19). -/
def recentOrders (log : List LoggedOrder) (now : Nat) : List LoggedOrder :=
  log.filter fun l => now ≤ l.sentAt + Config.logAge

/-- The engine's part of an order frame's end: last order, order log, refresh timer (R136, R137). -/
def Engine.sent (e : Engine) (now : Nat) (dark : Bool) (o : Order) : Engine :=
  { e with last := some o,
           log := recentOrders e.log now ++ [{ order := o, sentAt := now }],
           refreshAt := if e.state = .withheld then e.refreshAt else some (now + refreshTime dark) }

/-- Leaving DARK brings a refresh timer with more than 1 s left to 1 s (R136). -/
def Engine.brightenRefresh (e : Engine) (now : Nat) : Engine :=
  { e with refreshAt := e.refreshAt.map fun t => min t (now + Config.second) }

/-- The range over some orders (R138). -/
def rangeOver (first : Order) (rest : List Order) : EchoRange :=
  { least := rest.foldl (fun m o => min m o.reduction) first.reduction
    greatest := rest.foldl (fun m o => max m o.reduction) first.reduction
    unmuted := (first :: rest).any (fun o => o.mute == false)
    muted := (first :: rest).any (·.mute) }

/-- The range of R138: over the order log, or over the last order when the log is empty; none without a
last order (R138, R140). -/
def Engine.range (e : Engine) (now : Nat) : Option EchoRange :=
  match e.last, (recentOrders e.log now).map (·.order) with
  | none, _ => none
  | some o, [] => some (rangeOver o [])
  | some _, o :: os => some (rangeOver o os)

/-- The echo lies within the range, 1.0 dB wider on either side, with an allowed mute state (R138). -/
def EchoRange.fits (r : EchoRange) (x : Echo) : Bool :=
  r.least ≤ x.reduction + 10 && x.reduction ≤ r.greatest + 10 && (if x.mute then r.muted else r.unmuted)

/-- An echo is handed to the engine: the comparison of R138 and the runs of R139. -/
def Engine.echo (e0 : Engine) (now : Nat) (st : Stage) (x : Echo) : Engine × List Notice :=
  let e := { e0 with lastEcho := some x }
  match e.last, e.range now with
  | some o, some r =>
    if r.fits x then
      let m := min 5 (e.matches_ + 1)
      ({ e with matches_ := m, misses := 0,
                notFollowing := if m = 5 then false else e.notFollowing }, [])
    else
      let m := min 5 (e.misses + 1)
      let f := { e with misses := m, matches_ := 0 }
      if m = 5 ∧ e.notFollowing = false then
        ({ f with notFollowing := true }, [.stageNotFollowing st x r o])
      else (f, [])
  | some _, none => (e, [])
  | none, _ => (e, [])

/-- The gain engine's part of an enforcement restart (R142). -/
def Engine.enforce (e : Engine) (now : Nat) : Engine :=
  let kept :=
    if e.state.limiting then
      { { e with target := e.applied }.restartHold now with
        state := if e.applied = 0 then .opened else .holding, releaseAt := none }
    else e
  kept.tell now 0

/-! ### The engines in the state -/

/-- Applies an engine operation that offers notices. -/
def State.withEngine (s : State) (st : Stage) (r : Engine × List Notice) : State :=
  (s.putEngine st r.1).offers r.2

/-- A target is told to stage st's engine (R102, R124). -/
def State.tellTarget (s : State) (st : Stage) (t : Nat) : State :=
  s.putEngine st ((s.engine st).tell s.now t)

/-- The order in which the stage link looks for a due order: cyclically from the stage after the one
sent last, from stage 0 when none was (R137). -/
def stageOrderFrom (last : Option Stage) : List Stage :=
  match last with
  | none => allStages
  | some s => [s + 1, s + 2, s + 3, s]

/-- The engine's order is chosen for the line: mark cleared, sequence raised (R137). -/
def Engine.chosen (e : Engine) : Engine := { e with due := false, seq := e.seq + 1 }

/-- The stage link transmitter chooses an order when its line is idle (R137). -/
def State.chooseOrder (s : State) : State :=
  match s.link.line with
  | some _ => s
  | none =>
    match (stageOrderFrom s.link.lastStage).find? fun st => (s.engine st).due with
    | none => s
    | some st =>
      let e := (s.engine st).chosen
      { s.putEngine st e with
        link := { line := some { st := st, seq := e.seq, order := e.order }, lastStage := some st } }

/-- The end of the frame on the stage link (R137). -/
def State.orderSent (s : State) : State :=
  match s.link.line with
  | none => s
  | some o =>
    { s.putEngine o.st ((s.engine o.st).sent s.now s.standby.dark o.order) with
      link := { s.link with line := none } }

/-- Stage st's step timer ticks; the next tick is due 100 ms after this one was, so no event changes the
phase (R125, R129, log entry 2). -/
def State.stepTick (s : State) (st : Stage) : State :=
  let due := (s.engine st).stepAt
  let s1 := s.reach due
  let e := { s1.engine st with stepAt := due + Config.stepPeriod }
  s1.withEngine st (e.stepTick st)

/-- Stage st's hold timer expires, if it runs (R126). -/
def State.holdExpiry (s : State) (st : Stage) : State :=
  match (s.engine st).holdAt with
  | none => s
  | some t =>
    let s1 := s.reach t
    s1.putEngine st ((s1.engine st).holdExpiry s1.now)

/-- Stage st's release timer ticks, if it runs (R127). -/
def State.releaseTick (s : State) (st : Stage) : State :=
  match (s.engine st).releaseAt with
  | none => s
  | some t =>
    let s1 := s.reach t
    s1.putEngine st ((s1.engine st).releaseTick t)

/-- Stage st's refresh timer expires, if it runs, and makes an order due (R136, R135). -/
def State.refreshExpiry (s : State) (st : Stage) : State :=
  match (s.engine st).refreshAt with
  | none => s
  | some t =>
    let s1 := s.reach t
    s1.putEngine st { s1.engine st with refreshAt := none, due := true }

/-- START at the engines: every WITHHELD engine, in stage order (R132, R176). -/
def State.takeControl (s : State) : State :=
  allStages.foldl
    (fun s st =>
      if (s.engine st).state = .withheld then s.withEngine st ((s.engine st).takeControl s.now st) else s)
    s

end Sys2Proof.Machine
end

