-- ==== Sys2Proof/Machine/Levels.lean ====
section
/-! DEFINITION. Level arithmetic (chapter 1): the energy scale, recovery, means, the window figures with
their no-value cases, headroom, excess and the three limit tests. Energies and counts are natural
numbers: the part's 64-bit accumulators never overflow (R8, log entry 20). -/

namespace Sys2Proof.Machine

/-- The mantissa table T of R2, r = 0..99. -/
def mantissas : List Nat :=
  [1000, 1023, 1047, 1072, 1096, 1122, 1148, 1175, 1202, 1230] ++
  [1259, 1288, 1318, 1349, 1380, 1413, 1445, 1479, 1514, 1549] ++
  [1585, 1622, 1660, 1698, 1738, 1778, 1820, 1862, 1905, 1950] ++
  [1995, 2042, 2089, 2138, 2188, 2239, 2291, 2344, 2399, 2455] ++
  [2512, 2570, 2630, 2692, 2754, 2818, 2884, 2951, 3020, 3090] ++
  [3162, 3236, 3311, 3388, 3467, 3548, 3631, 3715, 3802, 3890] ++
  [3981, 4074, 4169, 4266, 4365, 4467, 4571, 4677, 4786, 4898] ++
  [5012, 5129, 5248, 5370, 5495, 5623, 5754, 5888, 6026, 6166] ++
  [6310, 6457, 6607, 6761, 6918, 7079, 7244, 7413, 7586, 7762] ++
  [7943, 8128, 8318, 8511, 8710, 8913, 9120, 9333, 9550, 9772]

/-- T[r] (R2). -/
def mantissa (r : Nat) : Nat := mantissas.getD r 0

/-- The energy E(L) of a level code in 300..1400 (R1). -/
def energy (l : Nat) : Nat := mantissa ((l - 300) % 100) * 10 ^ ((l - 300) / 100)

/-- The number of decimal digits, counted up to `fuel`; R4 needs it below 17 digits. -/
def digitsUpTo : Nat → Nat → Nat
  | 0, _ => 0
  | fuel + 1, x => if x < 10 then 1 else digitsUpTo fuel (x / 10) + 1

/-- D of R4 for every energy of fewer than 65 digits. -/
def digits (x : Nat) : Nat := digitsUpTo 64 x

/-- Step 5 of R4: the largest r with T[r] ≤ v, for v of at least T[0]. -/
def mantissaIndex (v : Nat) : Nat := (mantissas.filter (fun t => decide (t ≤ v))).length - 1

/-- The recovered level Lv(X) (R4), clamped to 1400. -/
def recover (x : Nat) : Nat :=
  if x < 1000 then 300
  else
    let q := digits x - 4
    if 11 < q then 1400 else min 1400 (300 + 100 * q + mantissaIndex (x / 10 ^ q))

/-- Mean(S, n), with no value for n = 0 (R6). -/
def mean (s n : Nat) : Option Nat := if n = 0 then none else some (s / n)

/-- The limits a zone's holder gives it (5.2). -/
structure LimitSet where
  short : Nat
  long : Nat
  k : Nat
  ceiling : Nat
  margin : Nat
  deriving DecidableEq, Repr

/-- The energies of the filled seconds of a second ring. -/
def filled (ring : Vector (Option Nat) 60) : List Nat := ring.toList.filterMap id

/-- The short level L1 (R9). -/
def shortLevel (ring : Vector (Option Nat) 60) : Option Nat :=
  let es := filled ring
  if es.length < 30 then none else (mean es.sum es.length).map recover

/-- The minute level Leq (R10). -/
def minuteLevel (s n : Nat) : Option Nat := (mean s n).map recover

/-- The sum of the energy sums of some minutes. -/
def sumOf (ms : List MinuteRecord) : Nat := (ms.map (·.sum)).sum

/-- The sum of the counts of some minutes. -/
def countOf (ms : List MinuteRecord) : Nat := (ms.map (·.count)).sum

/-- The long level LK over a minute ring that holds the minute just closed (R11). -/
def longLevel (k : Nat) (minutes : List MinuteRecord) : LongLevel :=
  let w := minutes.take k
  if minutes.length < k then .insufficient
  else if countOf w < 45 * k then .insufficient
  else match mean (sumOf w) (countOf w) with
    | some e => .code (recover e)
    | none => .insufficient

/-- The extrapolating energy of a projection (R12, R13). -/
def extrapolating (l1 : Option Nat) (cur : OpenMinute) : Option Nat :=
  match l1 with
  | some l => some (energy l)
  | none => mean cur.sum cur.count

/-- The projection PK (R12, R13). -/
def projection (k : Nat) (minutes : List MinuteRecord) (cur : OpenMinute) (l1 : Option Nat) : Option Nat :=
  match extrapolating l1 cur with
  | none => none
  | some e =>
    let m := 60 - cur.elapsed
    let terms := minutes.take (k - 1)
    (mean (sumOf terms + cur.sum + e * m) (countOf terms + cur.count + m)).map recover

/-- How far each figure that has a value lies above its limit, in the order SHORT, LONG, PEAK (R16). -/
def excessTerms (lim : LimitSet) (l1 pk : Option Nat) (peak : Nat) : List (LimitKind × Int) :=
  (match l1 with
    | some l => [(.short, (l : Int) - lim.short)]
    | none => []) ++
  (match pk with
    | some p => [(.long, (p : Int) - lim.long)]
    | none => []) ++
  [(.peak, (peak : Int) - lim.ceiling)]

/-- The greatest of the terms and 0, before the cap (R16). -/
def greatestTerm (terms : List (LimitKind × Int)) : Int := terms.foldl (fun m t => max m t.2) 0

/-- The excess x, capped at 400 (R16). -/
def excess (lim : LimitSet) (l1 pk : Option Nat) (peak : Nat) : Nat :=
  min 400 (greatestTerm (excessTerms lim l1 pk peak)).toNat

/-- The dominant limit kind: the first whose unclamped term is the greatest; none when x = 0 (R17). -/
def dominantKind (lim : LimitSet) (l1 pk : Option Nat) (peak : Nat) : Option LimitKind :=
  let terms := excessTerms lim l1 pk peak
  let g := greatestTerm terms
  if g = 0 then none else (terms.find? fun t => decide (t.2 = g)).map (·.1)

/-- The headroom h, clamped at −400, or none (R15). -/
def headroom (lim : LimitSet) (l1 pk : Option Nat) : Option Int :=
  match l1, pk with
  | none, none => none
  | some l, none => some (max (-400) ((lim.short : Int) - l))
  | none, some p => some (max (-400) ((lim.long : Int) - p))
  | some l, some p => some (max (-400) (min ((lim.short : Int) - l) ((lim.long : Int) - p)))

/-- A reading is over-short when L1 has a value above the short limit (R18). -/
def overShort (lim : LimitSet) (l1 : Option Nat) : Bool :=
  match l1 with
  | some l => lim.short < l
  | none => false

/-- A reading is a peak event when its peak is above the ceiling (R18). -/
def peakEvent (lim : LimitSet) (peak : Nat) : Bool := lim.ceiling < peak

/-- A close is over-long when LK has a value above the long limit (R18, R63). -/
def overLong (lim : LimitSet) (long : LongLevel) : Bool :=
  match long with
  | .code l => lim.long < l
  | .insufficient => false
  | .notComputed => false

end Sys2Proof.Machine
end

