-- ==== Sys2Proof/Machine/Attribution.lean ====
section
/-! DEFINITION. The control block (chapter 6): couplings, needs and targets, the evaluation of a fixed
point, attribution, need decay, and the freeze of a set whose point is stale. -/

namespace Sys2Proof.Machine

/-! ### Entries of the two tables -/

/-- A stage's coupling to a set's column (R101). -/
def Control.couplingAt (c : Control) (st : Stage) (p : SetIx) : Option Nat := (c.coupling[st])[p]

/-- A stage's need for a set's column (R102). -/
def Control.needAt (c : Control) (st : Stage) (p : SetIx) : Nat := (c.needs[st])[p]

/-- Writes one coupling. -/
def Control.setCoupling (c : Control) (st : Stage) (p : SetIx) (v : Option Nat) : Control :=
  { c with coupling := c.coupling.set st ((c.coupling[st]).set p v) }

/-- Writes one need. -/
def Control.setNeed (c : Control) (st : Stage) (p : SetIx) (v : Nat) : Control :=
  { c with needs := c.needs.set st ((c.needs[st]).set p v) }

/-- Rewrites the needs of a column, stage by stage. -/
def Control.mapColumn (c : Control) (p : SetIx) (f : Stage → Nat → Nat) : Control :=
  { c with needs := Vector.ofFn fun st : Stage => (c.needs[st]).set p (f st ((c.needs[st])[p])) }

/-- A stage is coupled to a set's point (R101). -/
def Control.coupled (c : Control) (st : Stage) (p : SetIx) : Bool := (c.couplingAt st p).isSome

/-- Writes a set's freeze state. -/
def Control.setFreeze (c : Control) (p : SetIx) (f : Freeze) : Control :=
  { c with freeze := c.freeze.set p f }

/-- The largest need of a row (R102). -/
def rowMax (row : Vector Nat 16) : Nat := row.toList.foldl max 0

/-! ### Targets (R102) -/

/-- One stage's target is recomputed and, when it differs, told to its engine (R102). -/
def State.retargetStage (s : State) (st : Stage) : State :=
  let t := rowMax s.control.needs[st]
  if t = s.control.targets[st] then s
  else
    { s with control := { s.control with targets := s.control.targets.set st t } }.tellTarget st t

/-- At the end of an event that changed needs, the engines whose targets changed are told, in stage
order (R102). -/
def State.retarget (s : State) : State := allStages.foldl State.retargetStage s

/-- A control block event: the tables change, then changed targets are told. -/
def State.controlEvent (s : State) (c : Control) : State := { s with control := c }.retarget

/-! ### Stage levels and attribution (R107 to R109) -/

/-- Stage st's valid stage level: its meter is fresh and has handed on an L1 since it became the meter
(R107). -/
def State.stageLevel (s : State) (st : Stage) : Option Nat :=
  match s.meterSlot st with
  | some sl => if sl.win.stale then none else s.standby.lastL1[st]
  | none => none

/-- Stage st's contribution at the point of column p (R107). -/
def State.contribution (s : State) (p : SetIx) (st : Stage) : Option Int :=
  match s.control.couplingAt st p, s.stageLevel st with
  | some c, some l => some ((l : Int) - c)
  | some _, none => none
  | none, _ => none

/-- The largest of some contributions (R108). -/
def largest (cs : List Int) : Option Int :=
  match cs with
  | [] => none
  | c :: rest => some (rest.foldl max c)

/-- Stage st is attributed at column p: its contribution is within 10.0 dB of the largest (R108), or no
stage has a contribution and the stage is coupled (R109). -/
def State.attributed (s : State) (p : SetIx) (st : Stage) : Bool :=
  match largest (allStages.filterMap (s.contribution p)) with
  | none => s.control.coupled st p
  | some cmax =>
    match s.contribution p st with
    | some c => decide (cmax - 100 ≤ c)
    | none => false

/-! ### Events of the control block -/

/-- An evaluation of a BOUNDARY or FOH point of set p (R105): `own` says whether the point is its set's
locked way-1 point, `margin` is the release margin of the zone's limit set. -/
def State.evaluate (s : State) (p : SetIx) (own : Bool) (margin x : Nat) (h : Option Int) : State :=
  if own = false ∨ allStages.all (fun st => !(s.control.coupled st p)) = true then
    -- R106, R109
    if x = 0 then s else s.count unattributed
  else if x = 0 then
    -- R111
    match h with
    | some v => if (margin : Int) ≤ v then s.controlEvent (s.control.mapColumn p fun _ n => n - 10) else s
    | none => s
  else
    -- R110
    s.controlEvent (s.control.mapColumn p fun st n =>
      if s.attributed p st then min 300 ((s.engine st).applied + x) else n)

/-- A set's locked BOUNDARY or FOH point turns stale (R113). -/
def State.freezeSet (s : State) (p : SetIx) : State :=
  match s.control.freeze[p] with
  | .active => { s with control := s.control.setFreeze p (.frozen (s.now + Config.freezeTime)) }
  | .frozen _ => s
  | .precaution => s

/-- A set's locked BOUNDARY or FOH point turns fresh (R115). -/
def State.thawSet (s : State) (p : SetIx) : State :=
  { s with control := s.control.setFreeze p .active }

/-- A set's freeze timer expires, if it runs: PRECAUTION, with coupled stages' needs at least 30
(R114). -/
def State.freezeExpiry (s : State) (p : SetIx) : State :=
  match s.control.freeze[p] with
  | .frozen t =>
    let s1 := s.reach t
    s1.controlEvent ((s1.control.setFreeze p .precaution).mapColumn p fun st n =>
      if s1.control.coupled st p then max n 30 else n)
  | .active => s
  | .precaution => s

/-- A column clear (R104). -/
def State.clearColumn (s : State) (p : SetIx) : State :=
  let c := s.control
  s.controlEvent
    { (c.mapColumn p fun _ _ => 0).setFreeze p .active with
      coupling := Vector.ofFn fun st : Stage => (c.coupling[st]).set p none }

/-- The need that SET_COUPLING leaves beside an entry (R103). -/
def needAfterCoupling (old new : Option Nat) (freeze : Freeze) (need : Nat) : Nat :=
  match old, new with
  | none, some _ => match freeze with
    | .precaution => max need 30
    | .active => need
    | .frozen _ => need
  | some _, some _ => need
  | some _, none => 0
  | none, none => need

/-- An accepted SET_COUPLING writes its entry and acts on the need (R103). -/
def State.couple (s : State) (st : Stage) (p : SetIx) (v : Option Nat) : State :=
  let c := s.control
  s.controlEvent ((c.setCoupling st p v).setNeed st p
    (needAfterCoupling (c.couplingAt st p) v c.freeze[p] (c.needAt st p)))

end Sys2Proof.Machine
end

