-- ==== Sys2Proof/Machine/Standby.lean ====
section
/-! DEFINITION. The standby monitor (10.5): quiet marks, the dark condition and timer, entering and
leaving DARK. -/

namespace Sys2Proof.Machine

/-- An L1 above the threshold; an L1 without a value is not (R180). -/
def loudL1 (threshold : Nat) (l1 : Option Nat) : Bool :=
  match l1 with
  | some l => threshold < l
  | none => false

/-- The dark condition (R180). -/
def State.darkCondition (s : State) : Bool :=
  s.standby.enable && allStages.any s.hasMeter &&
    allStages.all fun st => !(s.hasMeter st) || s.standby.quiet[st]

/-- The dark timer starts at the full dark time (R180). -/
def State.startDarkTimer (s : State) : State :=
  { s with standby := { s.standby with timer := some (s.now + s.standby.darkTime * Config.second) } }

/-- The dark timer stops (R180). -/
def State.stopDarkTimer (s : State) : State := { s with standby := { s.standby with timer := none } }

/-- The condition is judged after a change of a quiet mark: the timer starts when the condition begins
to hold, runs on while it holds, and stops when it does not (R180). -/
def State.judgeDark (s : State) : State :=
  if s.standby.dark then s
  else if s.darkCondition then (if s.standby.timer.isSome then s else s.startDarkTimer)
  else s.stopDarkTimer

/-- The condition is judged and the timer restarted from the full dark time if it holds (R179, R180,
R181). -/
def State.restartDark (s : State) : State :=
  if s.standby.dark then s
  else if s.darkCondition then s.startDarkTimer
  else s.stopDarkTimer

/-- Writes a stage's quiet mark. -/
def State.setQuiet (s : State) (st : Stage) (q : Bool) : State :=
  { s with standby := { s.standby with quiet := s.standby.quiet.set st q } }

/-- DARK ends: refresh timers are brought to 1 s and DARK_LEAVE is offered (R136, R181). -/
def State.leaveDark (s : State) (cause : DarkCause) : State :=
  { s with
    standby := { s.standby with dark := false }
    engines := Vector.ofFn fun st : Stage => (s.engine st).brightenRefresh s.now }.offer (.darkLeave cause)

/-- A stage meter hands its L1 (R72): the quiet mark is set, a loud L1 ends DARK, and the condition is
judged (R180, R181). -/
def State.stageL1 (s : State) (st : Stage) (l1 : Option Nat) : State :=
  let loud := loudL1 s.standby.threshold l1
  let s1 := { s with standby := { s.standby with lastL1 := s.standby.lastL1.set st l1 } }.setQuiet st (!loud)
  if s1.standby.dark then (if loud then (s1.leaveDark (.stageLevel st)).restartDark else s1)
  else s1.judgeDark

/-- A stage meter turns stale and is quiet (R74, R180). -/
def State.stageStale (s : State) (st : Stage) : State := (s.setQuiet st true).judgeDark

/-- A stage meter turns fresh: its mark is as its last L1 gives it (R67, R180, log entry 14). -/
def State.stageFresh (s : State) (st : Stage) : State :=
  (s.setQuiet st (!(loudL1 s.standby.threshold s.standby.lastL1[st]))).judgeDark

/-- A fixed point's evaluation with x > 0 is told: it ends DARK, or restarts the dark timer while the
condition holds (R71, R180, R181). -/
def State.excessTold (s : State) (p : SetIx) : State :=
  if s.standby.dark then (s.leaveDark (.excess p)).restartDark else s.restartDark

/-- The point ids of the stage meters, stage by stage. -/
def State.meterIds (s : State) : List (Option PointId) :=
  allStages.map fun st => (s.meterSlot st).map (·.point)

/-- A stage that gained or lost its meter has handed on no L1 and is quiet (R107, R180). -/
def State.forgetMeter (s : State) (st : Stage) : State :=
  { s with standby := { s.standby with lastL1 := s.standby.lastL1.set st none } }.setQuiet st true

/-- The point table tells the monitor which stages have other meters than in `before`: the timer is
restarted while the condition still holds (R41, R180). -/
def State.metersChanged (s : State) (before : List (Option PointId)) : State :=
  if s.meterIds = before then s
  else
    (allStages.foldl
      (fun t st => if s.meterIds[st.val]? = before[st.val]? then t else t.forgetMeter st) s).restartDark

/-- The dark timer expires, if it runs (R180). -/
def State.darkExpiry (s : State) : State :=
  match s.standby.timer with
  | none => s
  | some t =>
    let s1 := s.reach t
    { s1 with standby := { s1.standby with dark := true, timer := none } }.offer
      (.darkEnter (BitVec.ofNat 4 (marks (allStages.map s1.hasMeter))) s1.standby.threshold
        s1.standby.darkTime)

/-- SET_DARK at the monitor, with the values as stored (R179). -/
def State.setDark (s : State) (enable : Bool) (threshold darkTime : Nat) : State :=
  let s1 := { s with
    standby := { s.standby with enable := enable, threshold := threshold, darkTime := darkTime } }
  if enable = false then
    (if s1.standby.dark then s1.leaveDark .disabled else s1).stopDarkTimer
  else if s1.standby.dark then s1
  else
    (allStages.foldl
      (fun t st =>
        t.setQuiet st (match t.meterSlot st with
          | some sl => sl.win.stale || !(loudL1 threshold t.standby.lastL1[st])
          | none => true))
      s1).restartDark

/-- The monitor's part of an enforcement restart, after the notice queue was emptied (R178). -/
def State.enforceStandby (s : State) : State :=
  let s1 := { s with
    standby := { s.standby with quiet := Vector.replicate 4 true, lastL1 := Vector.replicate 4 none } }
  (if s1.standby.dark then s1.leaveDark .restart else s1).restartDark

end Sys2Proof.Machine
end

