-- ==== Sys2Proof/Machine/PointTable.lean ====
section
/-! DEFINITION. The point table (chapter 3): victim choice, eviction with its closing summary, filling a
slot, and the owners' parts of DECLARE_POINT, RELEASE_POINT and READ_POINT, each with its reply body. -/

namespace Sys2Proof.Machine

/-! ### Status codes of the owners (R150) -/

def stOk : List Byte := u8 0
def stBadField : List Byte := u8 1
def stUnknownKind : List Byte := u8 2
def stBusy : List Byte := u8 3
def stNotOwned : List Byte := u8 4
def stInForce : List Byte := u8 5
def stSetLocked : List Byte := u8 6
def stStageTaken : List Byte := u8 7
def stNoSlot : List Byte := u8 8
def stTableBusy : List Byte := u8 9
def stUnknownPoint : List Byte := u8 10
def stClockJump : List Byte := u8 11
def stNotHeld : List Byte := u8 12
def stBadLength : List Byte := u8 13

/-! ### Victim choice, eviction and filling -/

/-- A way is usable by a reading unless it is locked or holds a STAGE point (R49). -/
def PointSet.usable (ps : PointSet) (w : Way) : Bool :=
  match ps.get w with
  | none => true
  | some sl => !sl.locked && !sl.use.isStage

/-- The way chosen in the three steps of R49, before the protection of stage meters. -/
def PointSet.firstChoice (ps : PointSet) : Way :=
  match ps.way0, ps.way1 with
  | none, _ => .zero
  | some _, none => .one
  | some _, some sl => if sl.locked then .zero else ps.lru

/-- The victim way of R49, or none when neither way can be used. -/
def PointSet.victim (ps : PointSet) : Option Way :=
  let w := ps.firstChoice
  if ps.usable w then some w else if ps.usable w.other then some w.other else none

/-- The POINT_CLOSED of a slot as it stands (R51). -/
def Slot.closing (sl : Slot) (cause : CloseCause) : Notice :=
  .pointClosed sl.point sl.use sl.minute sl.win.secs sl.win.worstL1 sl.win.worstPeak cause

/-- An export's bindings to a freed slot are broken (R170). -/
def Exporter.breakBinding (x : Exporter) (p : SetIx) (w : Way) : Exporter :=
  { x with list := x.list.map fun e => if e.set = p ∧ e.way = w then { e with intact := false } else e }

/-- A slot is freed (R38, R170). -/
def State.freeSlot (s : State) (p : SetIx) (w : Way) : State :=
  { s.putSlot p w none with exporter := s.exporter.breakBinding p w }

/-- The two steps of R50: the closing summary of a dirty slot is offered, and the slot is freed unless
that notice is refused. A free way needs no eviction. -/
def State.evict (s : State) (p : SetIx) (w : Way) (cause : CloseCause) : Option State :=
  match s.slotAt p w with
  | none => some s
  | some sl =>
    if sl.dirty then
      match s.reports.offerClosed (sl.closing cause) with
      | some r => some ({ s with reports := r }.freeSlot p w)
      | none => none
    else some (s.freeSlot p w)

/-- A newly filled slot (R38). -/
def Slot.new (point : PointId) (use : Use) (locked : Bool) : Slot :=
  { point := point, use := use, locked := locked, dirty := false, minute := 0, win := WindowRecord.empty }

/-- A free way is filled (R38). -/
def State.fill (s : State) (w : Way) (point : PointId) (use : Use) (locked : Bool) : State :=
  s.putSlot (setOf point) w (some (Slot.new point use locked))

/-- After a request changed the table: a column whose owner changed is cleared (R42), and the monitor
learns of changed stage meters (R41, R48). `before` is the state the request found. -/
def State.tableChanged (s before : State) (p : SetIx) : State :=
  let s1 := if (before.points[p]).owner = (s.points[p]).owner ∨ (before.points[p]).owner = none
    then s else s.clearColumn p
  s1.metersChanged before.meterIds

/-! ### DECLARE_POINT (R45 to R48) -/

/-- The use named by a role code and a zone or stage byte, none when a field is out of range (R45). -/
def useOf (role place : Nat) : Option Use :=
  if hz : place < 8 then
    if role = 0 then some (.boundary ⟨place, hz⟩)
    else if role = 1 then some (.foh ⟨place, hz⟩)
    else if role = 3 then some (.roaming ⟨place, hz⟩)
    else if hs : place < 4 then (if role = 2 then some (.stage ⟨place, hs⟩) else none)
    else none
  else none

/-- A point id field, none above 1023. -/
def pointOf (id : Nat) : Option PointId := if h : id < 1024 then some ⟨id, h⟩ else none

/-- A one-byte flag field: 0 or 1, none otherwise. -/
def flagOf (b : Nat) : Option Bool := if b = 0 then some false else if b = 1 then some true else none

/-- The reply to a declaration that succeeds (3.3, R164). -/
def declareReply (p : SetIx) (w : Way) (moved : Bool) (evicted : Option PointId) : List Byte :=
  stOk ++ u8 p.val ++ u8 w.code ++ flag moved ++ opt16 (evicted.map (·.val))

/-- Role STAGE for a stage whose meter is another point (R45). -/
def State.stageTaken (s : State) (point : PointId) (use : Use) : Bool :=
  match use with
  | .boundary _ => false
  | .foh _ => false
  | .roaming _ => false
  | .stage st => match s.meterSlot st with
    | some sl => sl.point != point
    | none => false

/-- Way 1 of the set holds a locked point other than the declared one (R45). -/
def PointSet.lockedByOther (ps : PointSet) (point : PointId) : Bool :=
  match ps.way1 with
  | some sl => sl.locked && sl.point != point
  | none => false

/-- A present point is changed where it stands or moved to way 1; the way it stands in afterwards is
touched (R46). Answers that way and whether it moved. -/
def PointSet.redeclare (ps : PointSet) (w : Way) (use : Use) (lock : Bool) : PointSet × Way × Bool :=
  let changed := (ps.get w).map fun sl => { sl with use := use, locked := lock }
  match w, lock with
  | .zero, true => (({ ps with way1 := changed, way0 := ps.way1 }).touch .one, .one, true)
  | .zero, false => ((ps.put .zero changed).touch .zero, .zero, false)
  | .one, _ => ((ps.put .one changed).touch .one, .one, false)

/-- The way an absent point takes: way 1 for a lock (R47), else the victim choice (R49). -/
def PointSet.wayFor (ps : PointSet) (lock : Bool) : Option Way :=
  if lock then some .one else ps.victim

/-- An absent point is placed, or refused with NO_SLOT or TABLE_BUSY (R47). -/
def State.placePoint (s : State) (point : PointId) (use : Use) (lock : Bool) : List Byte × State :=
  let p := setOf point
  match (s.points[p]).wayFor lock with
  | none => (stNoSlot, s)
  | some w =>
    match s.evict p w .evictedByDeclaration with
    | none => (stTableBusy, s)
    | some s1 =>
      (declareReply p w false ((s.slotAt p w).map (·.point)),
        ((s1.fill w point use lock).touch p w).tableChanged s p)

/-- DECLARE_POINT after its field checks (R45 to R48). -/
def State.declare (s : State) (point : PointId) (use : Use) (lock : Bool) : List Byte × State :=
  let p := setOf point
  let ps := s.points[p]
  if s.stageTaken point use then (stStageTaken, s)
  else if lock ∧ ps.lockedByOther point = true then (stSetLocked, s)
  else match ps.find point with
    | some w =>
      let (ps1, w1, moved) := ps.redeclare w use lock
      (declareReply p w1 moved none, { s with points := s.points.set p ps1 }.tableChanged s p)
    | none => s.placePoint point use lock

/-- DECLARE_POINT at its owner (R45). -/
def ownDeclare (id role place lock : Nat) (s : State) : List Byte × State :=
  match pointOf id, useOf role place, flagOf lock with
  | some point, some use, some l =>
    if l ∧ use.isRoaming = true then (stBadField, s) else s.declare point use l
  | some _, some _, none => (stBadField, s)
  | some _, none, _ => (stBadField, s)
  | none, _, _ => (stBadField, s)

/-! ### RELEASE_POINT and READ_POINT -/

/-- RELEASE_POINT at its owner (R53). -/
def ownRelease (id : Nat) (s : State) : List Byte × State :=
  match pointOf id with
  | none => (stBadField, s)
  | some point =>
    let p := setOf point
    match (s.points[p]).find point with
    | none => (stUnknownPoint, s)
    | some w =>
      match s.evict p w .released with
      | none => (stTableBusy, s)
      | some s1 => (stOk, s1.tableChanged s p)

/-- The long level READ_POINT reports: that of the last close, none when it was not computed (R54, R56). -/
def lastLong (ms : List MinuteRecord) : List Byte :=
  match ms with
  | [] => opt16 none
  | m :: _ => match m.long with
    | .code c => u16 c
    | .insufficient => u16 65534
    | .notComputed => opt16 none

/-- The reply of READ_POINT for a present point (R54). -/
def readPointReply (p : SetIx) (w : Way) (sl : Slot) : List Byte :=
  stOk ++ u8 p.val ++ u8 w.code ++ useBytes sl.use ++ flag sl.locked ++ flag sl.dirty ++ u32 sl.minute ++
    u8 sl.win.minutes.length ++ optStamp sl.win.lastStamp ++ flag sl.win.stale ++ flag sl.win.exceeding ++
    opt16 sl.win.l1 ++ opt16 sl.win.pk ++ lastLong sl.win.minutes

/-- READ_POINT at its owner (R54). -/
def ownReadPoint (id : Nat) (s : State) : List Byte × State :=
  match pointOf id with
  | none => (stBadField, s)
  | some point =>
    let p := setOf point
    match (s.points[p]).find point with
    | none => (stUnknownPoint, s)
    | some w => match s.slotAt p w with
      | some sl => (readPointReply p w sl, s)
      | none => (stUnknownPoint, s)

end Sys2Proof.Machine
end

