-- ==== Sys2Proof/Machine/LimitSchedule.lean ====
section
/-! DEFINITION. The limit schedule (chapter 5): holders and limit sets, the walk, taking force and
retiring, the phases of each schedule event, the fallback record and the venue clock. -/

namespace Sys2Proof.Machine

/-! ### Parts of the schedule -/

/-- The schedule with the reports its events write: what the phases of an event act on. -/
structure Ledger where
  sched : Schedule
  reports : Reports
  deriving DecidableEq, Repr

/-- A period slot. -/
def Schedule.period (x : Schedule) (i : SlotIx) : Period := x.periods[i]

/-- Writes a period slot. -/
def Schedule.setPeriod (x : Schedule) (i : SlotIx) (p : Period) : Schedule :=
  { x with periods := x.periods.set i p }

/-- The limit set of a period (5.2). -/
def Period.limits (p : Period) : LimitSet :=
  { short := p.short, long := p.long, k := p.k, ceiling := p.ceiling, margin := p.margin }

/-- The limit set of the fallback record (R95). -/
def Fallback.limits (f : Fallback) : LimitSet :=
  { short := f.short, long := f.long, k := f.k, ceiling := f.ceiling, margin := f.margin }

/-- The limit set of a zone's holder (R81, R82). -/
def Schedule.zoneLimits (x : Schedule) (z : Zone) : LimitSet :=
  match x.zoneHolder[z] with
  | some i => (x.period i).limits
  | none => x.fallback.limits

/-- A stage's permission: the permit its holder gives it (R84). -/
def Schedule.permission (x : Schedule) (st : Stage) : Bool :=
  match x.stageHolder[st] with
  | some i => (x.period i).permits.getLsb st
  | none => x.fallback.permits.getLsb st

/-- The fade time of a stage's holder (R81). -/
def Schedule.fadeTime (x : Schedule) (st : Stage) : Nat :=
  match x.stageHolder[st] with
  | some i => (x.period i).fade
  | none => x.fallback.fade

/-- The clock's value, none while it is unset. -/
def Schedule.clockValue (x : Schedule) : Option Nat := if x.clockSet then some x.clock else none

/-- The zones a period holds, as marks (R79). -/
def Schedule.zonesHeld (x : Schedule) (i : SlotIx) : List Bool :=
  allZones.map fun z => x.zoneHolder[z] == some i

/-- The stages a period holds, as marks (R79). -/
def Schedule.stagesHeld (x : Schedule) (i : SlotIx) : List Bool :=
  allStages.map fun st => x.stageHolder[st] == some i

/-- A period holds no subject (R92). -/
def Schedule.holdsNothing (x : Schedule) (i : SlotIx) : Bool :=
  !((x.zonesHeld i).any id) && !((x.stagesHeld i).any id)

/-- Some period is IN_FORCE (R98). -/
def Schedule.someInForce (x : Schedule) : Bool := allSlots.any fun i => (x.period i).state == .inForce

/-! ### Taking force and retiring -/

/-- A period takes every subject named in its masks (R90). -/
def Schedule.take (x : Schedule) (i : SlotIx) (zones : BitVec 8) (stages : BitVec 4) : Schedule :=
  { x with
    zoneHolder := Vector.ofFn fun z : Zone => if zones.getLsb z then some i else x.zoneHolder[z]
    stageHolder := Vector.ofFn fun st : Stage => if stages.getLsb st then some i else x.stageHolder[st] }

/-- A period's subjects pass to the fallback record (R93). -/
def Schedule.drop (x : Schedule) (i : SlotIx) : Schedule :=
  { x with
    zoneHolder := Vector.ofFn fun z : Zone => if x.zoneHolder[z] = some i then none else x.zoneHolder[z]
    stageHolder := Vector.ofFn fun st : Stage =>
      if x.stageHolder[st] = some i then none else x.stageHolder[st] }

/-- ENDED and CUT_SHORT keep the running figures; the other outcomes write 0 and none (R93). -/
def PeriodOutcome.keepsFigures (o : PeriodOutcome) : Bool :=
  match o with
  | .ended => true
  | .cutShort => true
  | .none => false
  | .skipped => false
  | .rejected => false
  | .withdrawn => false

/-- A period's record after its retirement (R93). -/
def Period.retire (p : Period) (o : PeriodOutcome) : Period :=
  { p with
    state := .retired, outcome := o, validated := false
    exceed := if o.keepsFigures then p.exceed else 0
    worst := if o.keepsFigures then p.worst else none }

/-- The PERIOD_RETIRED of a retired period (R93). -/
def Period.notice (p : Period) (i : SlotIx) (clock : Option Nat) : Notice :=
  .periodRetired i p.outcome p.start p.stop p.zones p.stages p.exceed p.worst clock

/-- A period retires (R93). -/
def Ledger.retire (l : Ledger) (i : SlotIx) (o : PeriodOutcome) : Ledger :=
  let p := (l.sched.period i).retire o
  { sched := (l.sched.setPeriod i p).drop i
    reports := l.reports.offer (p.notice i l.sched.clockValue) }

/-- A period takes force at count `now`, its start clipped to `now` (R88, R90). -/
def Ledger.takeForce (l : Ledger) (i : SlotIx) : Ledger :=
  let p := l.sched.period i
  let q := { p with state := .inForce, start := max p.start l.sched.clock, exceed := 0, worst := none }
  { l with sched := (l.sched.setPeriod i q).take i p.zones p.stages }

/-! ### The walk (R85 to R89) -/

/-- A period that R87 calls invalid. -/
def Period.invalid (p : Period) : Bool :=
  p.stop ≤ p.start || (p.zones == 0 && p.stages == 0) || p.short < 300 || 1400 < p.short ||
    p.long < 300 || 1400 < p.long || p.k < 1 || 15 < p.k || p.ceiling < 300 || 1500 < p.ceiling

/-- The walk advances by one slot, from 31 to 0 (R89). -/
def Ledger.advance (l : Ledger) : Ledger := { l with sched := { l.sched with walk := l.sched.walk + 1 } }

/-- The walk stalls: the mark is set and the notice offered at the first such examination (R86). -/
def Ledger.stall (l : Ledger) : Ledger :=
  if l.sched.stall then l
  else
    { sched := { l.sched with stall := true }
      reports := l.reports.offer
        (.scheduleStalled l.sched.walk (l.sched.period l.sched.walk).state l.sched.clockValue) }

/-- What an examination makes of the slot at the walk position (R85, R87, R88). -/
inductive Verdict where
  | stall | wait | reject | skip | force
  deriving DecidableEq, Repr

/-- The decision on a period at count `now` (R87, R88). -/
def Period.verdict (p : Period) (clockSet : Bool) (now : Nat) : Verdict :=
  match p.state with
  | .empty => .stall
  | .retired => .stall
  | .inForce => .stall
  | .waiting | .pending =>
    if clockSet = false then .wait
    else if p.validated = false ∧ p.invalid = true then .reject
    else if p.stop ≤ now then .skip
    else if now < p.start then .wait
    else .force

/-- The walk examines the slot at its position, with any chain of resolutions; a chain ends within 32
advances (R85). -/
def Ledger.examine : Nat → Ledger → Ledger
  | 0, l => l
  | fuel + 1, l =>
    let i := l.sched.walk
    let p := l.sched.period i
    match p.verdict l.sched.clockSet l.sched.clock with
    | .stall => l.stall
    | .wait =>
      { l with sched := l.sched.setPeriod i
                { p with state := .pending, validated := p.validated || l.sched.clockSet } }
    | .reject => (l.retire i .rejected).advance.examine fuel
    | .skip => (l.retire i .skipped).advance.examine fuel
    | .force => ({ l with sched := l.sched.setPeriod i { p with validated := true } }.takeForce i).advance.examine fuel

/-- One examination within an event: 33 slots are more than any chain visits (R85). -/
def Ledger.walk (l : Ledger) : Ledger := l.examine 33

/-- Periods in force that meet a condition retire, in slot order (R91, R92). -/
def Ledger.retireWhere (l : Ledger) (o : PeriodOutcome) (cond : Schedule → SlotIx → Bool) : Ledger :=
  allSlots.foldl
    (fun l i => if (l.sched.period i).state = .inForce ∧ cond l.sched i = true then l.retire i o else l) l

/-- The retirement phase of a tick (R91). -/
def Ledger.retireEnded (l : Ledger) : Ledger :=
  l.retireWhere .ended fun x i => (x.period i).stop ≤ x.clock

/-- The cut-short phase of an event (R92). -/
def Ledger.cutShort (l : Ledger) : Ledger := l.retireWhere .cutShort Schedule.holdsNothing

/-! ### Events (R94) -/

/-- The permission close: each stage whose permission changed since `before` has its engine told (R84). -/
def State.permissionClose (s : State) (before : Schedule) : State :=
  allStages.foldl
    (fun t st =>
      if s.sched.permission st = before.permission st then t
      else t.withEngine st ((t.engine st).permit t.now st (s.sched.permission st) (s.sched.fadeTime st)))
    s

/-- A schedule event: its phases act on the schedule and the reports, then the permissions close (R94). -/
def State.schedEvent (s : State) (f : Ledger → Ledger) : State :=
  let l := f { sched := s.sched, reports := s.reports }
  { s with sched := l.sched, reports := l.reports }.permissionClose s.sched

/-- The venue clock ticks, while it is set; the next tick is due one second after this one was (R94, R97,
log entry 2). -/
def State.clockTick (s : State) : State :=
  match s.sched.tickAt with
  | none => s
  | some t =>
    let s1 := s.reach t
    s1.schedEvent fun l =>
      let x := { l.sched with clock := min (l.sched.clock + 1) Config.max32,
                              tickAt := some (t + Config.second) }
      { l with sched := x }.retireEnded.walk.cutShort

/-- The scoring of a reading is offered against the holder of its zone (R83). -/
def Schedule.score (x : Schedule) (z : Zone) (overShort : Bool) (h : Option Int) : Schedule :=
  match x.zoneHolder[z] with
  | none => x
  | some i =>
    let p := x.period i
    x.setPeriod i
      { p with
        exceed := if overShort then min (p.exceed + 1) 65535 else p.exceed
        worst := match h, p.worst with
          | some v, some w => some (min v w)
          | some v, none => some v
          | none, w => w }

/-! ### Requests of the schedule's owner -/

/-- A value clamped into lo..hi (R150). -/
def clamp (lo hi v : Nat) : Nat := max lo (min hi v)

/-- The fields a POST_PERIOD carries after its slot number (R78). -/
structure PostedFields where
  start : Nat
  stop : Nat
  zones : Byte
  stages : Byte
  permits : Byte
  short : Nat
  long : Nat
  k : Nat
  ceiling : Nat
  fade : Nat
  margin : Nat
  deriving DecidableEq, Repr

/-- The record a post writes: WAITING, fade time and margin clamped, status fields reset (R78). -/
def PostedFields.period (f : PostedFields) : Period :=
  { state := .waiting, start := f.start, stop := f.stop, zones := f.zones,
    stages := f.stages.extractLsb' 0 4, permits := f.permits.extractLsb' 0 4, short := f.short,
    long := f.long, k := f.k, ceiling := f.ceiling, fade := clamp 10 600 f.fade,
    margin := clamp 0 100 f.margin, outcome := .none, exceed := 0, worst := none, validated := false }

/-- A slot number field, none for 32 or more. -/
def slotIxOf (n : Nat) : Option SlotIx := if h : n < 32 then some ⟨n, h⟩ else none

/-- Slot number, state and outcome, as POST_PERIOD and RECALL_PERIOD reply them (R78, R80). -/
def slotReply (x : Schedule) (i : SlotIx) : List Byte :=
  u8 i.val ++ u8 (x.period i).state.code ++ u8 (x.period i).outcome.code

/-- The write of POST_PERIOD; a post to the walk position clears the stall mark (R78, R86). -/
def Schedule.post (x : Schedule) (i : SlotIx) (p : Period) : Schedule :=
  { x.setPeriod i p with stall := if i = x.walk then false else x.stall }

/-- POST_PERIOD at its owner (R78, R94). -/
def ownPost (slot : Nat) (f : PostedFields) (s : State) : List Byte × State :=
  match slotIxOf slot with
  | none => (stBadField, s)
  | some i =>
    if (s.sched.period i).state.controller then (stNotOwned, s)
    else
      let s1 := s.schedEvent fun l => { l with sched := l.sched.post i f.period }.walk.cutShort
      (stOk ++ slotReply s1.sched i, s1)

/-- READ_PERIOD at its owner (R79, log entry 15). -/
def ownReadPeriod (slot : Nat) (s : State) : List Byte × State :=
  match slotIxOf slot with
  | none => (stBadField, s)
  | some i =>
    let p := s.sched.period i
    let inForce := p.state == .inForce
    (stOk ++ flag p.state.controller ++ u8 p.state.code ++ u32 p.start ++ u32 p.stop ++
      u8 p.zones.toNat ++ u8 p.stages.toNat ++ u8 p.permits.toNat ++ u16 p.short ++ u16 p.long ++ u8 p.k ++
      u16 p.ceiling ++ u16 p.fade ++ u8 p.margin ++ u8 p.outcome.code ++ u16 p.exceed ++
      headroomBytes p.worst ++
      u8 (if inForce then marks (s.sched.zonesHeld i) else 0) ++
      u8 (if inForce then marks (s.sched.stagesHeld i) else 0), s)

/-- RECALL_PERIOD at its owner (R80, R94). -/
def ownRecall (slot : Nat) (s : State) : List Byte × State :=
  match slotIxOf slot with
  | none => (stBadField, s)
  | some i =>
    match (s.sched.period i).state with
    | .empty => (stOk ++ slotReply s.sched i, s)
    | .retired => (stOk ++ slotReply s.sched i, s)
    | .inForce => (stInForce ++ slotReply s.sched i, s)
    | .waiting =>
      let s1 := s.schedEvent fun l => (l.retire i .withdrawn).cutShort
      (stOk ++ slotReply s1.sched i, s1)
    | .pending =>
      let s1 := s.schedEvent fun l => (l.retire i .withdrawn).advance.walk.cutShort
      (stOk ++ slotReply s1.sched i, s1)

/-- The fallback record clamped into its ranges (R95, R96). -/
def Fallback.clamped (f : Fallback) : Fallback :=
  { short := clamp 300 1400 f.short, long := clamp 300 1400 f.long, k := clamp 1 15 f.k,
    ceiling := clamp 300 1500 f.ceiling, permits := f.permits, fade := clamp 10 600 f.fade,
    margin := clamp 0 100 f.margin }

/-- SET_FALLBACK at its owner (R96). -/
def ownSetFallback (f : Fallback) (s : State) : List Byte × State :=
  let g := f.clamped
  (stOk ++ u16 g.short ++ u16 g.long ++ u8 g.k ++ u16 g.ceiling ++ u8 g.permits.toNat ++ u16 g.fade ++
    u8 g.margin,
   s.schedEvent fun l => { l with sched := { l.sched with fallback := g } })

/-- A backward move of the set clock clips the start of every period in force to T (R98). -/
def Period.clipStart (p : Period) (t : Nat) : Period :=
  if p.state = .inForce ∧ t < p.start then { p with start := t } else p

/-- SET_TIME at its owner (R98). -/
def ownSetTime (t : Nat) (s : State) : List Byte × State :=
  let x := s.sched
  let was := flag x.clockSet ++ u32 (if x.clockSet then x.clock else 0)
  if x.clockSet = true ∧ x.someInForce = true ∧ t + 300 < x.clock then (stClockJump ++ was, s)
  else
    let periods := if x.clockSet = true ∧ t < x.clock
      then Vector.ofFn fun i : SlotIx => (x.period i).clipStart t else x.periods
    (stOk ++ was,
      { s with sched := { x with periods := periods, clock := t, clockSet := true,
                                 tickAt := some (s.now + Config.second) } })

/-- GET_TIME at its owner (R99). -/
def ownGetTime (s : State) : List Byte × State :=
  let x := s.sched
  (stOk ++ flag x.clockSet ++ u32 (if x.clockSet then x.clock else 0) ++ u8 x.walk.val ++ flag x.stall, s)

end Sys2Proof.Machine
end

