-- ==== Sys2Proof/Machine/HistoryExport.lean ====
section
/-! DEFINITION. History export (9.3): EXPORT and ABORT_EXPORT at the export unit, and the composition of
export records and of the export end. -/

namespace Sys2Proof.Machine

/-- The entry of an export for a slot: its base is the slot's minute number less back (R169). -/
def exportEntry (p : SetIx) (w : Way) (sl : Slot) (back : Nat) : ExportEntry :=
  { point := sl.point, set := p, way := w, intact := true, base := (sl.minute : Int) - back }

/-- The list of a WALK export: the locked point of way 1 of each set, in set order (R169). -/
def State.walkList (s : State) (back : Nat) : List ExportEntry :=
  allSets.filterMap fun p =>
    match s.slotAt p .one with
    | some sl => if sl.locked then some (exportEntry p .one sl back) else none
    | none => none

/-- An export becomes running (R169). -/
def State.beginExport (s : State) (seq : Byte) (mode : ExportMode) (list : List ExportEntry) (span : Nat) :
    List Byte × State :=
  (stOk ++ u8 list.length ++ u16 (list.length * (span + 1)),
    { s with exporter := { running := true, seq := seq, mode := mode, list := list, span := span,
                           cursor := 0, abort := false, sent := 0 } })

/-- EXPORT at its owner (R169). -/
def ownExport (seq : Byte) (id mode back span : Nat) (s : State) : List Byte × State :=
  let b := min 15 back
  let n := min 15 span
  if mode = 0 then
    match pointOf id with
    | none => (stBadField, s)
    | some point =>
      let p := setOf point
      match (s.points[p]).find point with
      | none => (stUnknownPoint, s)
      | some w => match s.slotAt p w with
        | some sl => s.beginExport seq .one [exportEntry p w sl b] n
        | none => (stUnknownPoint, s)
  else if mode = 1 then s.beginExport seq .walk (s.walkList b) n
  else (stBadField, s)

/-- The export end is on the line. -/
def Console.endOnLine (c : Console) : Bool :=
  match c.line with
  | some f => f.what == .exportEnd
  | none => false

/-- ABORT_EXPORT at its owner (R172). -/
def ownAbort (s : State) : List Byte × State :=
  if s.exporter.running = false then (stOk ++ u8 0, s)
  else if s.console.endOnLine then (stOk ++ u8 2, s)
  else (stOk ++ u8 1, { s with exporter := { s.exporter with abort := true } })

/-- The minute number the cursor names, 0 for one below 1 (R169, R170). -/
def Exporter.named (x : Exporter) (e : ExportEntry) : Nat := (e.base - (x.cursor % (x.span + 1) : Nat)).toNat

/-- The PRESENT fields of an export record (R170). -/
def presentBytes (m : MinuteRecord) : List Byte :=
  u8 m.count ++ u64 m.sum ++ opt16 m.leq ++ longBytes m.long ++ opt16 m.peak ++ u8 m.cal ++ u8 m.clip ++
    u8 (marks [m.thin, m.overrun])

/-- The body of the record the cursor names, read from the bound slot's minute ring (R170). -/
def State.recordBody (s : State) (e : ExportEntry) (number : Nat) : List Byte :=
  let bound := if e.intact then s.slotAt e.set e.way else none
  let useField := match bound with
    | some sl => useBytes sl.use
    | none => u8 255 ++ u8 255
  let held := match bound with
    | some sl => if number = 0 then none else sl.win.minutes.find? fun m => decide (m.number = number)
    | none => none
  u16 e.point.val ++ useField ++ u32 number ++
    (match held with
    | some m => u8 0 ++ presentBytes m
    | none => u8 1)

/-- The number of records of an export (R169). -/
def Exporter.total (x : Exporter) : Nat := x.list.length * (x.span + 1)

/-- The export end frame: outcome and records sent (R171). -/
def Exporter.endFrame (x : Exporter) : TxFrame :=
  { what := .exportEnd
    frame := { kind := 0x61, seq := x.seq, body := u8 (if x.abort then 1 else 0) ++ u16 x.sent } }

/-- The next record frame, if the cursor names one (R170). -/
def State.recordFrame (s : State) : Option TxFrame :=
  let x := s.exporter
  match x.list[x.cursor / (x.span + 1)]? with
  | some e => some { what := .record
                     frame := { kind := 0x60, seq := x.seq, body := s.recordBody e (x.named e) } }
  | none => none

/-- The export unit's next frame and the unit after it is chosen: a record moves the cursor and is
counted, the export end follows the last record or an abort (R170, R171). -/
def State.exportFrame (s : State) : Option (TxFrame × Exporter) :=
  let x := s.exporter
  if x.running = false then none
  else if x.abort then some (x.endFrame, x)
  else match s.recordFrame with
    | some f => some (f, { x with cursor := x.cursor + 1, sent := x.sent + 1 })
    | none => some (x.endFrame, x)

end Sys2Proof.Machine
end

