-- ==== Sys2Proof/Machine/Windows.lean ====
section
/-! DEFINITION. The window engine (chapter 4): seconds and minute closes, the eight stages of one
reading, scoring, the exceedance state, the hand-offs, and the freshness tick. -/

namespace Sys2Proof.Machine

/-! ### Seconds and minute closes (4.2, 4.3) -/

/-- A slot with the reports its closes write. -/
structure Bench where
  slot : Slot
  reports : Reports
  deriving DecidableEq, Repr

/-- The second ring moves by one slot: the oldest leaves, the new second enters (R59, R60). -/
def pushSecond (ring : Vector (Option Nat) 60) (e : Option Nat) : Vector (Option Nat) 60 :=
  ⟨⟨ring.toList.tail ++ [e]⟩, by simp⟩

/-- The completed minute record built from the open minute, its long level not yet computed (R62). -/
def OpenMinute.record (m : OpenMinute) (number : Nat) : MinuteRecord :=
  { number := number, sum := m.sum, count := m.count, leq := minuteLevel m.sum m.count,
    long := .notComputed, peak := m.peak, cal := m.cal, clip := m.clip, thin := m.count < 45,
    overrun := m.overrun }

/-- The long level stored at a close: computed for BOUNDARY and FOH points (R63). -/
def closeLong (use : Use) (k : Nat) (ring : List MinuteRecord) : LongLevel :=
  if use.fixed then longLevel k ring else .notComputed

/-- The since-summary figures and the dirty mark cleared (R64). -/
def Slot.summarised (sl : Slot) : Slot :=
  { sl with dirty := false, win := { sl.win with secs := 0, worstL1 := none, worstPeak := none } }

/-- A close of the slot's minute offers a digest: BOUNDARY and FOH always, STAGE when dirty, none while
DARK (R64). -/
def Slot.digests (sl : Slot) (dark : Bool) : Bool := !dark && (sl.use.fixed || (sl.use.isStage && sl.dirty))

/-- A minute closes: number, record, ring, long level, over-long count, digest, fresh open minute
(R62 to R64). -/
def Bench.closeMinute (b : Bench) (dark : Bool) (lim : LimitSet) : Bench :=
  let sl := b.slot
  let number := min (sl.minute + 1) Config.max32
  let bare := sl.win.cur.record number
  let long := closeLong sl.use lim.k ((bare :: sl.win.minutes).take 15)
  let m := { bare with long := long }
  let counted := match sl.use.zone with
    | some z => if overLong lim long then b.reports.count (.overLong z) else b.reports
    | none => b.reports
  let closed := { sl with
    minute := number
    win := { sl.win with minutes := (m :: sl.win.minutes).take 15, cur := OpenMinute.empty } }
  if sl.digests dark then
    { slot := closed.summarised
      reports := counted.offer (.minuteDigest sl.point sl.use m sl.win.secs sl.win.worstL1 sl.win.worstPeak) }
  else { slot := closed, reports := counted }

/-- One second is advanced: the ring takes `e`, the open minute takes the second, and a minute of 60
seconds closes (R59, R60). `cur` is the open minute with the second's contents, its elapsed not yet
raised. -/
def Bench.second (b : Bench) (dark : Bool) (lim : LimitSet) (e : Option Nat) (cur : OpenMinute) : Bench :=
  let moved := { b with
    slot := { b.slot with
      win := { b.slot.win with
        ring := pushSecond b.slot.win.ring e
        cur := { cur with elapsed := cur.elapsed + 1 } } } }
  if 60 ≤ cur.elapsed + 1 then moved.closeMinute dark lim else moved

/-- Some empty seconds are advanced, one after the other (R59). -/
def Bench.emptySeconds (b : Bench) (dark : Bool) (lim : LimitSet) : Nat → Bench
  | 0 => b
  | n + 1 => (b.second dark lim none b.slot.win.cur).emptySeconds dark lim n

/-- The greater of a figure that may have no value and a value (R60, R69). -/
def raise (old : Option Nat) (v : Nat) : Option Nat :=
  match old with
  | some w => some (max w v)
  | none => some v

/-- The open minute takes a reading's second (R60, R61). -/
def OpenMinute.take (m : OpenMinute) (r : Reading) : OpenMinute :=
  if r.cal then { m with cal := m.cal + 1 }
  else
    { m with
      sum := m.sum + energy r.level, count := m.count + 1, peak := raise m.peak r.peak
      clip := if r.clip || r.overMark then m.clip + 1 else m.clip }

/-- The reading's second is placed; its OVERRUN mark is set in the minute it falls in (R60, R61, R68). -/
def Bench.place (b : Bench) (dark : Bool) (lim : LimitSet) (r : Reading) : Bench :=
  let marked := { b.slot.win.cur with overrun := b.slot.win.cur.overrun || r.overrun }
  b.second dark lim (if r.cal then none else some (energy r.level)) (marked.take r)

/-! ### Classification (R57) -/

/-- The classes of R57; an accepted reading with the empty seconds before it. -/
inductive StampClass where
  | accepted (empties : Nat)
  | duplicate
  | late
  deriving DecidableEq, Repr

/-- A stamp against the slot's last stamp (R57, R65). -/
def classify (last : Option Word16) (stamp : Word16) : StampClass :=
  match last with
  | none => .accepted 0
  | some l =>
    let g := (stamp - l).toNat
    if g = 0 then .duplicate
    else if g ≤ 960 then .accepted (g - 1)
    else if g ≤ 32768 then .accepted 960
    else .late

/-! ### Stages 4 to 7 (R66) -/

/-- The limit set a slot's reading is judged against; a STAGE slot uses none of its fields (R66). -/
def State.limitsFor (s : State) (u : Use) : LimitSet :=
  match u.zone with
  | some z => s.sched.zoneLimits z
  | none => { short := 0, long := 0, k := 0, ceiling := 0, margin := 0 }

/-- Stages 4 and 5: the gap's empty seconds, then the reading's own (R66). -/
def State.advanceTo (s : State) (p : SetIx) (w : Way) (sl : Slot) (lim : LimitSet) (empties : Nat)
    (r : Reading) : State :=
  let b := (({ slot := sl, reports := s.reports } : Bench).emptySeconds s.standby.dark lim empties).place
    s.standby.dark lim r
  { s with reports := b.reports }.putSlot p w (some b.slot)

/-- The owner of a point's use hears that the slot is fresh (R67). -/
def State.tellFresh (s : State) (p : SetIx) (sl : Slot) : State :=
  match sl.use with
  | .boundary _ => if (s.points[p]).owner = some sl.point then s.thawSet p else s
  | .foh _ => if (s.points[p]).owner = some sl.point then s.thawSet p else s
  | .stage st => s.stageFresh st
  | .roaming _ => s

/-- Stage 6: last stamp, freshness and battery mark; the way is touched (R67, R40). -/
def State.refreshSlot (s : State) (p : SetIx) (w : Way) (r : Reading) : State :=
  match s.slotAt p w with
  | none => s
  | some sl =>
    let now := { sl with
      win := { sl.win with lastStamp := some r.stamp, fresh := 0, stale := false, battery := r.batt } }
    let s1 := (s.putSlot p w (some now)).touch p w
    let s2 := if sl.win.stale then (s1.offer (.pointFresh sl.point sl.use r.stamp)).tellFresh p now else s1
    if r.batt && !sl.win.battery then s2.offer (.batteryLow sl.point sl.use) else s2

/-- Stage 7: L1 and, but for STAGE slots, PK are stored as the last figures (R66). -/
def Slot.figures (sl : Slot) (lim : LimitSet) : Slot :=
  let l1 := shortLevel sl.win.ring
  let pk := if sl.use.isStage then none else projection lim.k sl.win.minutes sl.win.cur l1
  { sl with win := { sl.win with l1 := l1, pk := pk } }

/-- Stage 7 in the table. -/
def State.storeFigures (s : State) (p : SetIx) (w : Way) (lim : LimitSet) : State :=
  s.putSlot p w ((s.slotAt p w).map (·.figures lim))

/-! ### Stage 8 (R69 to R72) -/

/-- The since-summary figures and dirty mark after scoring a reading (R69). -/
def Slot.scored (sl : Slot) (lim : LimitSet) (r : Reading) : Slot :=
  let hit := overShort lim sl.win.l1
  { sl with
    dirty := sl.dirty || hit
    win := { sl.win with
      secs := if hit then min (sl.win.secs + 1) 65535 else sl.win.secs
      worstL1 := match sl.win.l1 with
        | some l => raise sl.win.worstL1 l
        | none => sl.win.worstL1
      worstPeak := raise sl.win.worstPeak r.peak } }

/-- The zone counters of a scored reading, over-short first (R69). -/
def Reports.countScore (rep : Reports) (z : Zone) (lim : LimitSet) (sl : Slot) (r : Reading) : Reports :=
  let a := if overShort lim sl.win.l1 then rep.count (.overShort z) else rep
  if peakEvent lim r.peak then a.count (.peaks z) else a

/-- A reading of a BOUNDARY, FOH or ROAMING slot is scored (R69). -/
def State.score (s : State) (p : SetIx) (w : Way) (z : Zone) (lim : LimitSet) (r : Reading) : State :=
  match s.slotAt p w with
  | none => s
  | some sl =>
    { s with
      reports := s.reports.countScore z lim sl r
      sched := s.sched.score z (overShort lim sl.win.l1) (headroom lim sl.win.l1 sl.win.pk) }.putSlot p w
      (some (sl.scored lim r))

/-- The exceedance state of a BOUNDARY or FOH slot after an evaluation with excess x (R70). -/
def Slot.exceedStep (sl : Slot) (x : Nat) (kind : Option LimitKind) : Slot × List Notice :=
  if sl.win.exceeding then
    if 0 < x then ({ sl with win := { sl.win with clear := 0 } }, [])
    else if 10 ≤ sl.win.clear + 1 then
      ({ sl with win := { sl.win with exceeding := false, clear := 0 } }, [.exceedClear sl.point sl.use])
    else ({ sl with win := { sl.win with clear := sl.win.clear + 1 } }, [])
  else if 0 < x then
    ({ sl with win := { sl.win with exceeding := true, clear := 0 } },
      [.exceedOnset sl.point sl.use kind x sl.win.l1 sl.win.pk])
  else (sl, [])

/-- A slot in OVER that was declared ROAMING or STAGE returns to QUIET (R70, log entry 11). -/
def Slot.exceedEnd (sl : Slot) : Slot × List Notice :=
  if sl.win.exceeding then
    ({ sl with win := { sl.win with exceeding := false, clear := 0 } }, [.exceedClear sl.point sl.use])
  else (sl, [])

/-- Applies a slot's exceedance step in the table. -/
def State.stepExceed (s : State) (p : SetIx) (w : Way) (f : Slot → Slot × List Notice) : State :=
  match s.slotAt p w with
  | none => s
  | some sl => (s.putSlot p w (some (f sl).1)).offers (f sl).2

/-- Stage 8 of a BOUNDARY or FOH reading: scoring, exceedance step, evaluation, and the excess told to
the standby monitor (R69 to R71). R120 leaves open which of the last two comes first: the control block
takes its part before the monitor, so a COUNTER_HALF of unattributed excesses is queued before a
DARK_LEAVE of the same reading (DESIGN CHOICE, unsafe, log entry 33). -/
def State.workFixed (s : State) (p : SetIx) (w : Way) (z : Zone) (lim : LimitSet) (r : Reading) : State :=
  match s.slotAt p w with
  | none => s
  | some sl =>
    let x := excess lim sl.win.l1 sl.win.pk r.peak
    let kind := dominantKind lim sl.win.l1 sl.win.pk r.peak
    let h := headroom lim sl.win.l1 sl.win.pk
    let s1 := (s.score p w z lim r).stepExceed p w fun t => t.exceedStep x kind
    let s2 := s1.evaluate p (decide (w = .one) && sl.locked) lim.margin x h
    if 0 < x then s2.excessTold p else s2

/-- Stage 8 of a STAGE reading: exceedance of an earlier role, L1 to the monitor, echo to the engine
(R70, R72). -/
def State.workStage (s : State) (p : SetIx) (w : Way) (st : Stage) (r : Reading) : State :=
  let s1 := s.stepExceed p w Slot.exceedEnd
  let s2 := s1.stageL1 st ((s1.slotAt p w).bind (·.win.l1))
  match r.echo with
  | some x => s2.withEngine st ((s2.engine st).echo s2.now st x)
  | none => s2

/-- Stage 8 by role; a CAL reading is not scored and not evaluated (R61, R66). -/
def State.roleWork (s : State) (p : SetIx) (w : Way) (u : Use) (lim : LimitSet) (r : Reading) : State :=
  match u with
  | .boundary z => if r.cal then s else s.workFixed p w z lim r
  | .foh z => if r.cal then s else s.workFixed p w z lim r
  | .roaming z => (if r.cal then s else s.score p w z lim r).stepExceed p w Slot.exceedEnd
  | .stage st => s.workStage p w st r

/-! ### One reading (R66) -/

/-- Stages 3 to 8 of a reading whose slot stands in way w of set p (R66). -/
def State.windowWork (s : State) (p : SetIx) (w : Way) (r : Reading) : State :=
  match s.slotAt p w with
  | none => s
  | some sl =>
    match classify sl.win.lastStamp r.stamp with
    | .duplicate => s.count duplicates
    | .late => s.count lateReadings
    | .accepted n =>
      let lim := s.limitsFor sl.use
      (((s.advanceTo p w sl lim n r).refreshSlot p w r).storeFigures p w lim).roleWork p w sl.use lim r

/-- Stage 1: the reading's slot is found or filled, or the reading is refused and counted (R49, R66). -/
def State.seat (s : State) (r : Reading) : State × Option Way :=
  let p := setOf r.point
  match (s.points[p]).find r.point with
  | some w => (s, some w)
  | none =>
    match (s.points[p]).victim with
    | none => (s.count noSlotRefusals, none)
    | some w =>
      match s.evict p w .evictedByReading with
      | none => (s.count tableBusyRefusals, none)
      | some s1 => (s1.fill w r.point (.roaming r.hint) false, some w)

/-- One reading, whole (R66). -/
def State.processReading (s : State) (r : Reading) : State :=
  match s.seat r with
  | (s1, some w) => s1.windowWork (setOf r.point) w r
  | (s1, none) => s1

/-- A removal: the head leaves, a held reading joins the tail (R34). -/
def ReadingQueue.remove (q : ReadingQueue) : Option (Reading × ReadingQueue) :=
  match q.queue with
  | [] => none
  | r :: rest =>
    some (r, match q.holding with
      | some h => { queue := rest ++ [h], holding := none }
      | none => { queue := rest, holding := none })

/-- The window engine takes the head reading and processes it; while the queue is empty it waits (R34,
R66). -/
def State.takeReading (s : State) : State :=
  match s.readings.remove with
  | none => s
  | some (r, q) => { s with readings := q }.processReading r

/-! ### Freshness (4.7) -/

/-- The threshold in ticks of a slot's present role (R73). -/
def staleTicks (stale : Fin 2) (u : Use) : Nat :=
  match u with
  | .boundary _ => if stale = 0 then 4 else 16
  | .foh _ => if stale = 0 then 4 else 16
  | .stage _ => 4
  | .roaming _ => 60

/-- The owner of a point's use hears that the slot is stale (R74). -/
def State.tellStale (s : State) (p : SetIx) (sl : Slot) : State :=
  match sl.use with
  | .boundary _ => if (s.points[p]).owner = some sl.point then s.freezeSet p else s
  | .foh _ => if (s.points[p]).owner = some sl.point then s.freezeSet p else s
  | .stage st => s.stageStale st
  | .roaming _ => s

/-- A freshness tick visits one way of a set (R73 to R75). -/
def State.tickSlot (s : State) (p : SetIx) (w : Way) : State :=
  match s.slotAt p w with
  | none => s
  | some sl =>
    if sl.win.stale then s
    else if staleTicks s.straps.stale sl.use ≤ sl.win.fresh + 1 then
      let now := { sl with win := { sl.win with fresh := sl.win.fresh + 1, stale := true } }
      ((s.putSlot p w (some now)).offer (.pointStale sl.point sl.use sl.win.lastStamp)).tellStale p now
    else s.putSlot p w (some { sl with win := { sl.win with fresh := sl.win.fresh + 1 } })

/-- The freshness tick visits every valid slot, in set order; the next tick is due 0.5 s after this one
was (R73, log entries 2 and 9). -/
def State.freshnessTick (s : State) : State :=
  allSets.foldl (fun t p => (t.tickSlot p .zero).tickSlot p .one)
    { s.reach s.freshAt with freshAt := s.freshAt + Config.freshPeriod }

end Sys2Proof.Machine
end

