-- ==== Sys2Proof/Machine/MeterInputs.lean ====
section
/-! DEFINITION. The meter input unit and the arrival side of the reading queue (chapter 2). -/

namespace Sys2Proof.Machine

/-! ### The mode of METER_PREF (R25) -/

/-- The preferred input of a METER_PREF level. -/
def preferredOf (pref : Fin 4) : Input :=
  match pref with
  | 0 => .a
  | 1 => .b
  | 2 => .a
  | 3 => .b

/-- Levels 2 and 3 are the auto modes. -/
def autoMode (pref : Fin 4) : Bool := 2 ≤ pref.val

/-- The preferred input of the latched mode. -/
def State.preferred (s : State) : Input := preferredOf s.straps.pref

/-- An auto mode is latched. -/
def State.auto (s : State) : Bool := autoMode s.straps.pref

/-- An input is alive while its alive timer runs (R24). -/
def MeterUnit.isAlive (m : MeterUnit) (i : Input) : Bool := (m.alive.get i).isSome

/-! ### The active-input choice (R26 to R30) -/

/-- The active input moves: the return timer is stopped and METER_INPUT_SWITCH is offered (R26 to R28,
R30). -/
def State.switchInput (s : State) (now_ : Input) (cause : SwitchCause) : State :=
  { s with meter := { s.meter with active := now_, returnAt := none } }.offer
    (.meterInputSwitch s.meter.active now_ cause (s.meter.isAlive .a) (s.meter.isAlive .b))

/-- An input's alive timer expires, if it runs (R24 to R26, R28). -/
def State.aliveExpiry (s : State) (i : Input) : State :=
  match s.meter.alive.get i with
  | none => s
  | some t =>
    let s1 := s.reach t
    let s2 := { s1 with meter := { s1.meter with alive := s1.meter.alive.put i none } }
    if s2.auto = false then s2
    else if i = s2.meter.active then
      (if s2.meter.isAlive (otherInput i) then s2.switchInput (otherInput i) .failover else s2)
    else if i = s2.preferred then { s2 with meter := { s2.meter with returnAt := none } }
    else s2

/-- The return timer expires, if it runs (R28). -/
def State.returnExpiry (s : State) : State :=
  match s.meter.returnAt with
  | none => s
  | some t => (s.reach t).switchInput s.preferred .return_

/-! ### From frame to reading (R31, R32) -/

/-- A level or peak field's low 11 bits (R19). -/
def raw11 (w : Word16) : Nat := w.toNat % 2048

/-- The conversion of a valid frame (R31, R32). -/
def convert (f : MeterFrame) : Reading :=
  let level := raw11 f.level
  { point := ⟨f.pointWord.toNat % 1024, Nat.mod_lt _ (by decide)⟩
    hint := ⟨f.pointWord.toNat / 1024 % 8, Nat.mod_lt _ (by decide)⟩
    stamp := f.stamp
    level := clamp 300 1400 level
    peak := clamp 300 1500 (raw11 f.peak)
    echo := if f.flags.getLsbD 3
      then some { reduction := min 300 f.echo.toNat, mute := f.flags.getLsbD 4 } else none
    clip := f.flags.getLsbD 0
    cal := f.flags.getLsbD 1
    batt := f.flags.getLsbD 2
    overMark := 1400 < level
    overrun := false }

/-- The queue holds 64 readings (R33). -/
def ReadingQueue.full (q : ReadingQueue) : Bool := 64 ≤ q.queue.length

/-- A reading is offered to the reading queue (R33). -/
def State.offerReading (s : State) (r : Reading) : State :=
  let q := s.readings
  if q.full = false then { s with readings := { q with queue := q.queue ++ [{ r with overrun := false }] } }
  else
    let s1 := { s with readings := { q with holding := some { r with overrun := true } } }
    if q.holding.isSome then s1.count overruns else s1

/-! ### Frames (R20 to R24, R27 to R29) -/

/-- An input's alive timer restarts (R24). -/
def State.restartAlive (s : State) (i : Input) : State :=
  { s with meter := { s.meter with alive := s.meter.alive.put i (some (s.now + Config.aliveTime)) } }

/-- The return timer starts when the preferred input becomes alive while the non-preferred input is
active and alive (R28). -/
def State.startReturn (s : State) (i : Input) (wasAlive : Bool) : State :=
  if s.auto ∧ i = s.preferred ∧ wasAlive = false ∧ s.meter.active = otherInput i ∧
      s.meter.isAlive (otherInput i) = true then
    { s with meter := { s.meter with returnAt := some (s.now + Config.returnTime) } }
  else s

/-- The receiver of an input goes to HUNT, its gap timer stopped. -/
def State.huntMeter (s : State) (i : Input) : State :=
  { s with meter := { s.meter with rx := s.meter.rx.put i .hunt } }

/-- A valid frame on an input: alive timer, revival, return timer, conversion (R24, R27 to R29). -/
def State.validFrame (s : State) (i : Input) (f : MeterFrame) : State :=
  let wasAlive := s.meter.isAlive i
  let s1 := s.restartAlive i
  let s2 := if s1.auto = true ∧ i ≠ s1.meter.active ∧ s1.meter.isAlive s1.meter.active = false
    then s1.switchInput i .revival else s1
  let s3 := s2.startReturn i wasAlive
  if i = s3.meter.active then s3.offerReading (convert f) else s3

/-- A frame in progress is dropped and counted, and the receiver returns to HUNT (R21). -/
def State.dropMeterFrame (s : State) (i : Input) : State := (s.huntMeter i).count (badFrames i)

/-- A complete frame of fifteen bytes is checked (R22). -/
def State.completeMeterFrame (s : State) (i : Input) (bs : List Byte) : State :=
  match readMeterFrame bs with
  | some f => (s.huntMeter i).validFrame i f
  | none => s.dropMeterFrame i

/-- The frame gap timer of an input's receiver expires, if it runs (R21). -/
def State.meterGapExpiry (s : State) (i : Input) : State :=
  match s.meter.rx.get i with
  | .hunt => s
  | .collecting _ t => (s.reach t).dropMeterFrame i

/-- A faulty stop bit or a break on a meter line (R20, R21). -/
def State.meterBreak (s : State) (i : Input) : State :=
  match s.meter.rx.get i with
  | .hunt => s
  | .collecting _ _ => s.dropMeterFrame i

/-- A receiver gathers some bytes; the gap timer restarts at the last one's stop bit (R20). -/
def State.collectMeter (s : State) (i : Input) (bs : List Byte) : State :=
  { s with meter := { s.meter with rx := s.meter.rx.put i (.collecting bs (s.now + Config.meterGap)) } }

/-- A character arrives at a meter receiver (R20, R21). -/
def State.meterCharacter (s : State) (i : Input) (c : Byte) (good : Bool) : State :=
  if good = false then s.meterBreak i
  else
    match s.meter.rx.get i with
    | .hunt => if c = 0xA5#8 then s.collectMeter i [c] else s
    | .collecting bs _ =>
      if bs.length + 1 < 15 then s.collectMeter i (bs ++ [c]) else s.completeMeterFrame i (bs ++ [c])

end Sys2Proof.Machine
end

