-- ==== Sys2Proof/Machine/Requests.lean ====
section
/-! DEFINITION. The request decoder (8.3): the request table, the checks of R149, and the owners' parts
of STATUS, START, SET_COUPLING, SET_STAGE_RATES, READ_STAGE, SET_DARK and READ_COUNTERS. The other owners
stand with their blocks. A reply body is composed from the state the owner's event leaves (R151). -/

namespace Sys2Proof.Machine

/-! ### The request table (R149) -/

/-- The request kinds of the table. -/
inductive RequestKind where
  | status | setTime | getTime | start | restart
  | declarePoint | releasePoint | readPoint | setCoupling
  | postPeriod | readPeriod | recallPeriod | setFallback
  | setStageRates | readStage | setDark
  | readCounters | export_ | abortExport
  deriving DecidableEq, Repr

/-- The kind codes of R149. -/
def RequestKind.code (k : RequestKind) : Byte :=
  match k with
  | .status => 0x01
  | .setTime => 0x02
  | .getTime => 0x03
  | .start => 0x04
  | .restart => 0x05
  | .declarePoint => 0x10
  | .releasePoint => 0x11
  | .readPoint => 0x12
  | .setCoupling => 0x13
  | .postPeriod => 0x20
  | .readPeriod => 0x21
  | .recallPeriod => 0x22
  | .setFallback => 0x23
  | .setStageRates => 0x30
  | .readStage => 0x31
  | .setDark => 0x32
  | .readCounters => 0x38
  | .export_ => 0x3A
  | .abortExport => 0x3B

/-- The body lengths of R149. -/
def RequestKind.length (k : RequestKind) : Nat :=
  match k with
  | .status => 0
  | .setTime => 4
  | .getTime => 0
  | .start => 0
  | .restart => 1
  | .declarePoint => 5
  | .releasePoint => 2
  | .readPoint => 2
  | .setCoupling => 4
  | .postPeriod => 22
  | .readPeriod => 1
  | .recallPeriod => 1
  | .setFallback => 11
  | .setStageRates => 4
  | .readStage => 1
  | .setDark => 5
  | .readCounters => 1
  | .export_ => 5
  | .abortExport => 0

/-- The requests that are taken while an export runs (R149, R156). -/
def RequestKind.exempt (k : RequestKind) : Bool :=
  k == .status || k == .readCounters || k == .abortExport

/-- The table in code order. -/
def requestTable : List RequestKind :=
  [.status, .setTime, .getTime, .start, .restart, .declarePoint, .releasePoint, .readPoint, .setCoupling,
   .postPeriod, .readPeriod, .recallPeriod, .setFallback, .setStageRates, .readStage, .setDark,
   .readCounters, .export_, .abortExport]

/-- The request of a kind code, if the table has it (R149). -/
def requestOf (kind : Byte) : Option RequestKind := requestTable.find? fun k => decide (k.code = kind)

/-! ### STATUS (R157, R158) -/

/-- The valid BOUNDARY and FOH slots. -/
def State.fixedSlots (s : State) : List Slot := s.slots.filter (·.use.fixed)

/-- The condition code (R157). -/
def State.condition (s : State) : Nat :=
  if allStages.any (fun st => (s.engine st).notFollowing) then 1
  else if allStages.any (fun st => (s.engine st).state == .fading) then 2
  else if s.fixedSlots.any (·.win.stale) then 3
  else if s.fixedSlots.any (·.win.exceeding) then 4
  else if s.sched.stall then 5
  else if s.meter.active ≠ s.preferred then 6
  else if s.sched.clockSet = false then 7
  else 0

/-- The marks of the stages whose engine is in a state (R158). -/
def State.stateMarks (s : State) (x : EngineState) : Nat :=
  marks (allStages.map fun st => (s.engine st).state == x)

/-- The reply to STATUS (R158). -/
def ownStatus (s : State) : List Byte × State :=
  (stOk ++ u8 s.condition ++
    u8 (marks (allStages.map fun st => (s.engine st).notFollowing)) ++
    u8 (s.stateMarks .fading) ++ u8 (s.stateMarks .silenced) ++ u8 (s.stateMarks .withheld) ++
    u8 (s.fixedSlots.filter (·.win.stale)).length ++ u8 (s.fixedSlots.filter (·.win.exceeding)).length ++
    flag s.sched.clockSet ++ flag s.sched.stall ++ u8 s.sched.walk.val ++
    u8 (inputCode s.preferred) ++ u8 (inputCode s.meter.active) ++
    u8 (marks [s.meter.isAlive .a, s.meter.isAlive .b]) ++
    flag s.standby.dark ++ flag s.exporter.running ++ u8 s.reports.queue.length, s)

/-! ### START (R176) -/

/-- START at its owner: the released stages' marks, or NOT_HELD (R176). -/
def ownStart (s : State) : List Byte × State :=
  let held := allStages.map fun st => (s.engine st).state == .withheld
  if held.any id then (stOk ++ u8 (marks held), s.takeControl) else (stNotHeld, s)

/-! ### SET_COUPLING (R103) -/

/-- A stage field, none above 3. -/
def stageOf (n : Nat) : Option Stage := if h : n < 4 then some ⟨n, h⟩ else none

/-- A set field, none above 15. -/
def setIxOf (n : Nat) : Option SetIx := if h : n < 16 then some ⟨n, h⟩ else none

/-- An attenuation field: 65535 means none, any other value above 900 is stored as 900 (R103). -/
def attenuation (n : Nat) : Option Nat := if n = 65535 then none else some (min 900 n)

/-- SET_COUPLING at its owner (R103). -/
def ownSetCoupling (stage set atten : Nat) (s : State) : List Byte × State :=
  match stageOf stage, setIxOf set with
  | some st, some p =>
    match (s.points[p]).owner with
    | none => (stBadField, s)
    | some _ =>
      let s1 := s.couple st p (attenuation atten)
      (stOk ++ u8 st.val ++ u8 p.val ++ opt16 (s1.control.couplingAt st p) ++ u16 (s1.control.needAt st p) ++
        u16 s1.control.targets[st] ++ u8 (s1.control.freeze[p]).code, s1)
  | some _, none => (stBadField, s)
  | none, _ => (stBadField, s)

/-! ### SET_STAGE_RATES and READ_STAGE (R133, R140) -/

/-- SET_STAGE_RATES at its owner (R133). -/
def ownSetRates (stage attack release hold : Nat) (s : State) : List Byte × State :=
  match stageOf stage with
  | none => (stBadField, s)
  | some st =>
    let e := { s.engine st with
      attack := clamp 1 100 attack, release := clamp 1 50 release, hold := clamp 0 120 hold }
    (stOk ++ u8 st.val ++ u8 e.attack ++ u8 e.release ++ u8 e.hold, s.putEngine st e)

/-- Whole seconds to the hold timer's expiry, rounded up; 255 when it is stopped (R140). -/
def Engine.holdLeft (e : Engine) (now : Nat) : Nat :=
  match e.holdAt with
  | none => 255
  | some t => (t - now + Config.second - 1) / Config.second

/-- One set of a stage's row (R140). -/
def Control.rowBytes (c : Control) (st : Stage) (p : SetIx) : List Byte :=
  opt16 (c.couplingAt st p) ++ u16 (c.needAt st p) ++ u8 (c.freeze[p]).code

/-- READ_STAGE at its owner (R140). -/
def ownReadStage (stage : Nat) (s : State) : List Byte × State :=
  match stageOf stage with
  | none => (stBadField, s)
  | some st =>
    let e := s.engine st
    (stOk ++ u8 st.val ++ u8 e.state.code ++ u16 e.applied ++ u16 e.target ++ flag e.granted ++
      u16 e.fadeTime ++ u8 (match e.fade with | some f => f.step | none => 0) ++
      u8 e.attack ++ u8 e.release ++ u8 e.hold ++ u8 (e.holdLeft s.now) ++ [e.seq] ++ orderBytes e.last ++
      rangeBytes (e.range s.now) ++ echoBytes e.lastEcho ++ u8 e.misses ++ u8 e.matches_ ++
      flag e.notFollowing ++ allSets.flatMap (s.control.rowBytes st), s)

/-! ### SET_DARK (R179) and READ_COUNTERS (R168) -/

/-- SET_DARK at its owner (R179). -/
def ownSetDark (enable threshold darkTime : Nat) (s : State) : List Byte × State :=
  match flagOf enable with
  | none => (stBadField, s)
  | some en =>
    let t := clamp 300 900 threshold
    let d := clamp 60 3600 darkTime
    let s1 := s.setDark en t d
    (stOk ++ flag en ++ u16 t ++ u16 d ++ flag s1.standby.dark, s1)

/-- The device counters in code order. -/
def deviceIds : List CounterId := ([0, 1, 2, 3, 4, 5, 6, 7, 8] : List (Fin 9)).map .device

/-- The 58 bytes of counters in a READ_COUNTERS reply (R168). -/
def Counters.bytes (c : Counters) : List Byte :=
  deviceIds.flatMap (fun i => u16 (c.get i)) ++
    allZones.flatMap fun z => u16 (c.get (.overShort z)) ++ u16 (c.get (.overLong z)) ++ u8 (c.get (.peaks z))

/-- READ_COUNTERS at its owner (R168). -/
def ownReadCounters (clear : Nat) (s : State) : List Byte × State :=
  match flagOf clear with
  | none => (stBadField, s)
  | some c =>
    (stOk ++ s.reports.counters.bytes,
      if c then { s with reports := { s.reports with counters := Counters.zero } } else s)

/-! ### RESTART (R152) -/

/-- RESTART: the reply is placed; the restart is taken when its last byte has left (R152). -/
def ownRestart (kind : Nat) (s : State) : List Byte × State :=
  if kind = 0 then (stOk, { s with console := { s.console with restart := some .full } })
  else if kind = 1 then (stOk, { s with console := { s.console with restart := some .enforcement } })
  else (stBadField, s)

/-! ### The decoder (R148, R149) -/

/-- A request whose length is right is handed to its owner (R149, check 4). -/
def ownerReply (k : RequestKind) (seq : Byte) (body : List Byte) (s : State) : List Byte × State :=
  match k, body with
  | .status, [] => ownStatus s
  | .setTime, [t0, t1, t2, t3] => ownSetTime (le32 t0 t1 t2 t3) s
  | .getTime, [] => ownGetTime s
  | .start, [] => ownStart s
  | .restart, [x] => ownRestart x.toNat s
  | .declarePoint, [p0, p1, role, place, lock] =>
    ownDeclare (le16 p0 p1) role.toNat place.toNat lock.toNat s
  | .releasePoint, [p0, p1] => ownRelease (le16 p0 p1) s
  | .readPoint, [p0, p1] => ownReadPoint (le16 p0 p1) s
  | .setCoupling, [st, p, a0, a1] => ownSetCoupling st.toNat p.toNat (le16 a0 a1) s
  | .postPeriod, [i, s0, s1, s2, s3, e0, e1, e2, e3, z, st, pm, h0, h1, l0, l1, k, c0, c1, f0, f1, m] =>
    ownPost i.toNat
      { start := le32 s0 s1 s2 s3, stop := le32 e0 e1 e2 e3, zones := z, stages := st, permits := pm,
        short := le16 h0 h1, long := le16 l0 l1, k := k.toNat, ceiling := le16 c0 c1,
        fade := le16 f0 f1, margin := m.toNat } s
  | .readPeriod, [i] => ownReadPeriod i.toNat s
  | .recallPeriod, [i] => ownRecall i.toNat s
  | .setFallback, [h0, h1, l0, l1, k, c0, c1, pm, f0, f1, m] =>
    ownSetFallback
      { short := le16 h0 h1, long := le16 l0 l1, k := k.toNat, ceiling := le16 c0 c1,
        permits := pm.extractLsb' 0 4, fade := le16 f0 f1, margin := m.toNat } s
  | .setStageRates, [st, a, r, h] => ownSetRates st.toNat a.toNat r.toNat h.toNat s
  | .readStage, [st] => ownReadStage st.toNat s
  | .setDark, [e, t0, t1, d0, d1] => ownSetDark e.toNat (le16 t0 t1) (le16 d0 d1) s
  | .readCounters, [c] => ownReadCounters c.toNat s
  | .export_, [p0, p1, m, b, n] => ownExport seq (le16 p0 p1) m.toNat b.toNat n.toNat s
  | .abortExport, [] => ownAbort s
  | _, _ => (stBadLength, s)

/-- The decoder's checks, in order: kind, length, export, owner (R149). -/
def answer (kind seq : Byte) (body : List Byte) (s : State) : List Byte × State :=
  match requestOf kind with
  | none => (stUnknownKind, s)
  | some k =>
    if body.length ≠ k.length then (stBadLength, s)
    else if s.exporter.running ∧ k.exempt = false then (stBusy, s)
    else ownerReply k seq body s

/-- A request is offered to the decoder: taken when the reply slot is empty, discarded otherwise (R148);
its reply has the kind plus 0x80 and the request's sequence (R151). -/
def State.offerRequest (s : State) (kind seq : Byte) (body : List Byte) : State :=
  match s.console.reply with
  | some _ => s
  | none =>
    let (b, s1) := answer kind seq body s
    { s1 with console := { s1.console with reply := some { kind := kind + 0x80, seq := seq, body := b } } }

end Sys2Proof.Machine
end

