-- ==== Sys2Proof/Machine/ConsoleLink.lean ====
section
/-! DEFINITION. The console line (chapter 8): the receiver, the transmit arbiter, and the end of a
frame; and the restarts (10.2, 10.4), which the end of a RESTART reply takes. -/

namespace Sys2Proof.Machine

/-! ### The receiver (R145 to R147) -/

/-- The console receiver goes to HUNT, its gap timer stopped. -/
def State.huntConsole (s : State) : State := { s with console := { s.console with rx := .hunt } }

/-- A frame that passed its check: a request when its kind lies in 0x01..0x3F, else discarded (R147). -/
def State.checkedFrame (s : State) (f : ConFrame) : State :=
  if 1 ≤ f.kind.toNat ∧ f.kind.toNat ≤ 0x3F then s.offerRequest f.kind f.seq f.body else s

/-- A complete frame is checked (R147). -/
def State.completeConsoleFrame (s : State) (bs : List Byte) : State :=
  match readConFrame bs with
  | some f => s.huntConsole.checkedFrame f
  | none => s.huntConsole

/-- The receiver gathers some bytes; the gap timer restarts at the last one's stop bit (R145). -/
def State.collectConsole (s : State) (bs : List Byte) : State :=
  { s with console := { s.console with rx := .collecting bs (s.now + Config.consoleGap s.straps.rate) } }

/-- The frame in progress is discarded on a faulty stop bit or a break (R146). -/
def State.consoleBreak (s : State) : State := s.huntConsole

/-- The bytes of a frame in COLLECTING: refused at a length above 200, complete at 6 + L bytes (R145). -/
def State.gatherConsole (s : State) (bs : List Byte) : State :=
  match bs with
  | _ :: l :: _ =>
    if 200 < l.toNat then s.huntConsole
    else if 6 + l.toNat ≤ bs.length then s.completeConsoleFrame bs
    else s.collectConsole bs
  | _ => s.collectConsole bs

/-- A character arrives at the console receiver (R145, R146). -/
def State.consoleCharacter (s : State) (c : Byte) (good : Bool) : State :=
  match s.console.rx with
  | .hunt => if good = true ∧ c = 0x7E#8 then s.collectConsole [c] else s
  | .collecting bs _ => if good = false then s.consoleBreak else s.gatherConsole (bs ++ [c])

/-- The console receiver's gap timer expires, if it runs (R146). -/
def State.consoleGapExpiry (s : State) : State :=
  match s.console.rx with
  | .hunt => s
  | .collecting _ t => (s.reach t).huntConsole

/-- A whole request frame arrives: what its last character does (R145, R147, R148, log entry 4). A body
of more than 200 bytes is discarded at its length byte. -/
def State.requestFrame (s : State) (kind seq : Byte) (body : List Byte) : State :=
  if body.length ≤ 200 then s.huntConsole.checkedFrame { kind := kind, seq := seq, body := body }
  else s.huntConsole

/-! ### The transmit arbiter (R153 to R155) -/

/-- Puts a frame on the console line. -/
def State.sendFrame (s : State) (f : TxFrame) : State :=
  { s with console := { s.console with line := some f } }

/-- The arbiter's choice when the line is idle: the reply, then an export frame, then the head notice
(R153). -/
def State.chooseFrame (s : State) : State :=
  match s.console.line with
  | some _ => s
  | none =>
    match s.console.reply with
    | some r => s.sendFrame { what := .reply, frame := r }
    | none =>
      match s.exportFrame with
      | some (f, x) => { s with exporter := x }.sendFrame f
      | none =>
        match s.reports.queue with
        | e :: rest =>
          { s with reports := { s.reports with queue := rest } }.sendFrame
            { what := .notice, frame := e.frame }
        | [] => s

/-- The two transmitters choose a frame if their line is idle, unless a reset holds them (R137, R153,
R175, log entry 6). -/
def State.transmit (s : State) : State := if s.held then s else s.chooseOrder.chooseFrame

/-! ### Restarts (R175 to R178 and the blocks' reset rules) -/

/-- START_MODE levels 0 and 2 are the RUN modes (10.1, R122). -/
def runMode (mode : Fin 4) : Bool := mode = 0 || mode = 2

/-- START_MODE levels 2 and 3 are the strict modes (10.1, R95). -/
def strictMode (mode : Fin 4) : Bool := 2 ≤ mode.val

/-- The fallback record that START_MODE selects (R95). -/
def startFallback (mode : Fin 4) : Fallback :=
  if strictMode mode then { Fallback.reset with short := 650, long := 600, ceiling := 1150 }
  else Fallback.reset

/-- A gain engine's start values (R122); its step timer's phase is given. -/
def startEngine (mode : Fin 4) (stepAt : Nat) : Engine :=
  if runMode mode then { Engine.reset with stepAt := stepAt }
  else { Engine.reset with stepAt := stepAt, state := .withheld, due := false }

/-- Every block at its power-on values, with straps latched (R36, R55, R95, R100, R119, R122, R141,
R159, R165, R166, R173 to R175, R179); the time base, the phases of the free-running ticks and the
waiting commands are given. -/
def startState (pins : Straps) (now freshAt : Nat) (steps : Stage → Nat) (pending : List Instr) : State :=
  { State.reset with
    straps := pins
    now := now
    freshAt := freshAt
    meter := { State.reset.meter with active := preferredOf pins.pref }
    sched := { State.reset.sched with fallback := startFallback pins.mode }
    engines := Vector.ofFn fun st : Stage => startEngine pins.mode (steps st)
    pending := pending }

/-- The end of a power-on reset or a pin reset: the straps are latched and every block takes its
power-on values; the ticks start a full period later (R175, log entry 2). -/
def State.resetEnds (s : State) (pins : Straps) (still : ResetHold) : State :=
  { startState pins s.now (s.now + Config.freshPeriod) (fun _ => s.now + Config.stepPeriod) s.pending with
    hold := still }

/-- While a reset begins to hold: the receivers ignore their lines and drop what they gathered, and
frames on the transmit lines are broken off (R175). -/
def State.beginHold (s : State) (hold : ResetHold) : State :=
  { s with
    hold := hold
    meter := { s.meter with rx := { a := .hunt, b := .hunt } }
    console := { s.console with rx := .hunt, line := none }
    link := { s.link with line := none } }

/-- A full restart (R177): power-on values with the straps latched again; the frame on the stage link
is completed first (log entry 7); a part that was DARK offers DARK_LEAVE. -/
def State.fullRestart (s : State) (pins : Straps) : State :=
  let s1 := startState pins s.now s.freshAt (fun st => (s.engine st).stepAt) s.pending
  if s.standby.dark then s1.offer (.darkLeave .restart) else s1

/-- A slot after an enforcement restart: window record empty, clean, the rest kept (R55, R56). -/
def Slot.enforce (sl : Slot) : Slot := { sl with dirty := false, win := WindowRecord.empty }

/-- The point table after an enforcement restart (R55). -/
def PointSet.enforce (ps : PointSet) : PointSet :=
  { ps with way0 := ps.way0.map (·.enforce), way1 := ps.way1.map (·.enforce) }

/-- The control block after an enforcement restart: couplings kept (R119). -/
def Control.enforce (c : Control) : Control :=
  { State.reset.control with coupling := c.coupling }

/-- An enforcement restart, block by block in the order of the table of 10.4 (R178). -/
def State.enforcementRestart (s : State) : State :=
  { s with
    readings := { queue := [], holding := none }
    points := Vector.ofFn fun p : SetIx => (s.points[p]).enforce
    control := s.control.enforce
    engines := Vector.ofFn fun st : Stage => (s.engine st).enforce s.now
    reports := Reports.empty }.enforceStandby

/-! ### The end of a console frame (R148, R152, R156, R171) -/

/-- The last byte of a frame leaves the console line: a reply empties the slot and takes a waiting
restart, an export end stops the export. The arbiter then chooses (`State.transmit`). -/
def State.frameSent (s : State) (pins : Straps) : State :=
  match s.console.line with
  | none => s
  | some f =>
    let s1 := { s with console := { s.console with line := none } }
    match f.what with
    | .notice => s1
    | .record => s1
    | .exportEnd => { s1 with exporter := Exporter.idle }
    | .reply =>
      let s2 := { s1 with console := { s1.console with reply := none, restart := none } }
      match s.console.restart with
      | none => s2
      | some .full => s2.fullRestart pins
      | some .enforcement => s2.enforcementRestart

/-! ### A command that acts -/

/-- A command's effect, after which the transmitters choose; none while a reset holds the part (R175). -/
def State.act (s : State) (f : State → State) : Host.Outcome State Fault Refusal :=
  if s.held then .next s else .next (f s).transmit

end Sys2Proof.Machine
end

