-- ==== Sys2Proof/Machine/ConsoleCommands.lean ====
section
/-! DEFINITION. The commands of the console line (chapter 8) that are not requests of the table. -/

namespace Sys2Proof.Machine

/-- CONSOLE_CHARACTER_RECEIVED: one character at the console receiver, with a good or a faulty stop bit
(R145, R146). -/
def execConsoleCharacterReceived (c : Byte) (good : Bool) (s : State) : Host.Outcome State Fault Refusal :=
  s.act (·.consoleCharacter c good)

/-- CONSOLE_FRAME_DISCARDED: a frame has been received whose length, check or kind is wrong; no reply,
nothing counted (R145, R147, log entry 4). -/
def execConsoleFrameDiscarded (s : State) : Host.Outcome State Fault Refusal := s.act State.huntConsole

/-- CONSOLE_FRAME_GAP_EXPIRY (R146). -/
def execConsoleFrameGapExpiry (s : State) : Host.Outcome State Fault Refusal :=
  s.act State.consoleGapExpiry

/-- CONSOLE_LINE_BREAK (R146). -/
def execConsoleLineBreak (s : State) : Host.Outcome State Fault Refusal := s.act State.consoleBreak

/-- CONSOLE_FRAME_SENT: the last byte of the frame on the console line has left (R148, R152, R156); the
strap pins are read by a full restart (R174). -/
def execConsoleFrameSent (pins : Straps) (s : State) : Host.Outcome State Fault Refusal :=
  s.act (·.frameSent pins)

/-- REQUEST_DISCARDED: a request is offered while the reply slot is occupied, and discarded (R148, log
entry 12). -/
def execRequestDiscarded (kind seq : Byte) (body : List Byte) (s : State) :
    Host.Outcome State Fault Refusal :=
  s.act (·.requestFrame kind seq body)

/-- UNKNOWN_KIND: a request whose kind is not in the table (R149). -/
def execUnknownKind (kind seq : Byte) (body : List Byte) (s : State) : Host.Outcome State Fault Refusal :=
  s.act (·.requestFrame kind seq body)

end Sys2Proof.Machine
end

