-- ==== Sys2Proof/Machine/MeterCommands.lean ====
section
/-! DEFINITION. The commands of the meter inputs (chapter 2) and of the window engine that draws their
readings (chapters 3 and 4). -/

namespace Sys2Proof.Machine

/-- METER_CHARACTER_RECEIVED: one character at a meter receiver, with a good or a faulty stop bit (R20,
R21). -/
def execMeterCharacterReceived (inp : Input) (c : Byte) (good : Bool) (s : State) :
    Host.Outcome State Fault Refusal :=
  s.act (·.meterCharacter inp c good)

/-- METER_READING_FRAME: a whole valid frame has been received; what its last character does (R22, R24,
R27, R29, R33, log entry 4). -/
def execMeterReadingFrame (inp : Input) (f : MeterFrame) (s : State) : Host.Outcome State Fault Refusal :=
  s.act fun t => (t.huntMeter inp).validFrame inp f

/-- BAD_FRAME: a whole bad frame has been received; it is dropped and counted (R22, R23, log entry 4). -/
def execBadFrame (inp : Input) (s : State) : Host.Outcome State Fault Refusal :=
  s.act (·.dropMeterFrame inp)

/-- METER_FRAME_GAP_EXPIRY (R21). -/
def execMeterFrameGapExpiry (inp : Input) (s : State) : Host.Outcome State Fault Refusal :=
  s.act (·.meterGapExpiry inp)

/-- METER_LINE_BREAK (R21). -/
def execMeterLineBreak (inp : Input) (s : State) : Host.Outcome State Fault Refusal :=
  s.act (·.meterBreak inp)

/-- ALIVE_TIMER_EXPIRY (R24 to R26, R28). -/
def execAliveTimerExpiry (inp : Input) (s : State) : Host.Outcome State Fault Refusal :=
  s.act (·.aliveExpiry inp)

/-- RETURN_TIMER_EXPIRY (R28). -/
def execReturnTimerExpiry (s : State) : Host.Outcome State Fault Refusal := s.act State.returnExpiry

/-- READING: the window engine takes the head reading and processes it whole (R34, R66). -/
def execReading (s : State) : Host.Outcome State Fault Refusal := s.act State.takeReading

/-- FRESHNESS_TICK (R73 to R75). -/
def execFreshnessTick (s : State) : Host.Outcome State Fault Refusal := s.act State.freshnessTick

end Sys2Proof.Machine
end

