-- ==== Sys2Proof/Machine/RequestCommands.lean ====
section
/-! DEFINITION. The requests of the console (8.3), one meaning for each row of the opcode table: a whole
request frame of the row's kind is received and offered to the decoder (R147 to R149, log entry 4). Two
rows of one kind have one code; their bodies tell them apart (log entry 8). -/

namespace Sys2Proof.Machine

/-- STATUS (R157, R158). -/
def execStatus (seq : Byte) (body : List Byte) (s : State) : Host.Outcome State Fault Refusal :=
  s.act (·.requestFrame 0x01 seq body)

/-- SET_TIME (R98). -/
def execSetTime (seq : Byte) (body : List Byte) (s : State) : Host.Outcome State Fault Refusal :=
  s.act (·.requestFrame 0x02 seq body)

/-- GET_TIME (R99). -/
def execGetTime (seq : Byte) (body : List Byte) (s : State) : Host.Outcome State Fault Refusal :=
  s.act (·.requestFrame 0x03 seq body)

/-- START (R132, R176). -/
def execStart (seq : Byte) (body : List Byte) (s : State) : Host.Outcome State Fault Refusal :=
  s.act (·.requestFrame 0x04 seq body)

/-- RESTART FULL (R152, R177). -/
def execRestartFull (seq : Byte) (body : List Byte) (s : State) : Host.Outcome State Fault Refusal :=
  s.act (·.requestFrame 0x05 seq body)

/-- RESTART ENFORCEMENT (R152, R178). -/
def execRestartEnforcement (seq : Byte) (body : List Byte) (s : State) : Host.Outcome State Fault Refusal :=
  s.act (·.requestFrame 0x05 seq body)

/-- DECLARE_POINT (R45 to R48). -/
def execDeclarePoint (seq : Byte) (body : List Byte) (s : State) : Host.Outcome State Fault Refusal :=
  s.act (·.requestFrame 0x10 seq body)

/-- RELEASE_POINT (R53). -/
def execReleasePoint (seq : Byte) (body : List Byte) (s : State) : Host.Outcome State Fault Refusal :=
  s.act (·.requestFrame 0x11 seq body)

/-- READ_POINT (R54). -/
def execReadPoint (seq : Byte) (body : List Byte) (s : State) : Host.Outcome State Fault Refusal :=
  s.act (·.requestFrame 0x12 seq body)

/-- SET_COUPLING (R103). -/
def execSetCoupling (seq : Byte) (body : List Byte) (s : State) : Host.Outcome State Fault Refusal :=
  s.act (·.requestFrame 0x13 seq body)

/-- POST_PERIOD (R78). -/
def execPostPeriod (seq : Byte) (body : List Byte) (s : State) : Host.Outcome State Fault Refusal :=
  s.act (·.requestFrame 0x20 seq body)

/-- READ_PERIOD (R79). -/
def execReadPeriod (seq : Byte) (body : List Byte) (s : State) : Host.Outcome State Fault Refusal :=
  s.act (·.requestFrame 0x21 seq body)

/-- RECALL_PERIOD (R80). -/
def execRecallPeriod (seq : Byte) (body : List Byte) (s : State) : Host.Outcome State Fault Refusal :=
  s.act (·.requestFrame 0x22 seq body)

/-- SET_FALLBACK (R96). -/
def execSetFallback (seq : Byte) (body : List Byte) (s : State) : Host.Outcome State Fault Refusal :=
  s.act (·.requestFrame 0x23 seq body)

/-- SET_STAGE_RATES (R133). -/
def execSetStageRates (seq : Byte) (body : List Byte) (s : State) : Host.Outcome State Fault Refusal :=
  s.act (·.requestFrame 0x30 seq body)

/-- READ_STAGE (R140). -/
def execReadStage (seq : Byte) (body : List Byte) (s : State) : Host.Outcome State Fault Refusal :=
  s.act (·.requestFrame 0x31 seq body)

/-- SET_DARK (R179). -/
def execSetDark (seq : Byte) (body : List Byte) (s : State) : Host.Outcome State Fault Refusal :=
  s.act (·.requestFrame 0x32 seq body)

/-- READ_COUNTERS, read only (R168). -/
def execReadCounters (seq : Byte) (body : List Byte) (s : State) : Host.Outcome State Fault Refusal :=
  s.act (·.requestFrame 0x38 seq body)

/-- READ_COUNTERS, read and clear (R168). -/
def execReadCountersClear (seq : Byte) (body : List Byte) (s : State) : Host.Outcome State Fault Refusal :=
  s.act (·.requestFrame 0x38 seq body)

/-- EXPORT in ONE mode (R169). -/
def execExportOne (seq : Byte) (body : List Byte) (s : State) : Host.Outcome State Fault Refusal :=
  s.act (·.requestFrame 0x3A seq body)

/-- EXPORT in WALK mode (R169). -/
def execExportWalk (seq : Byte) (body : List Byte) (s : State) : Host.Outcome State Fault Refusal :=
  s.act (·.requestFrame 0x3A seq body)

/-- ABORT_EXPORT (R172). -/
def execAbortExport (seq : Byte) (body : List Byte) (s : State) : Host.Outcome State Fault Refusal :=
  s.act (·.requestFrame 0x3B seq body)

end Sys2Proof.Machine
end

