-- ==== Sys2Proof/Machine/ResetCommands.lean ====
section
/-! DEFINITION. The commands of reset and supply (10.2). -/

namespace Sys2Proof.Machine

/-- POWER_ON: the supply has entered its range and the crystal has started; power-on reset ends, with
the straps latched (R174, R175). RESET_N may still hold the part (log entry 16). -/
def execPowerOn (pins : Straps) (s : State) : Host.Outcome State Fault Refusal :=
  .next (s.resetEnds pins { pin := s.hold.pin, supply := false }).transmit

/-- PIN_RESET: RESET_N is released and pin reset ends, with the straps latched (R174, R175). A power-on
reset may still hold the part (log entry 16). -/
def execPinReset (pins : Straps) (s : State) : Host.Outcome State Fault Refusal :=
  .next (s.resetEnds pins { pin := false, supply := s.hold.supply }).transmit

/-- RESET_N_LOW: pin reset begins to hold the part (R175). -/
def execResetNLow (s : State) : Host.Outcome State Fault Refusal :=
  .next (s.beginHold { s.hold with pin := true })

/-- SUPPLY_BELOW_RANGE: power-on reset begins to hold the part (R175). -/
def execSupplyBelowRange (s : State) : Host.Outcome State Fault Refusal :=
  .next (s.beginHold { s.hold with supply := true })

end Sys2Proof.Machine
end

