-- ==== Sys2Proof/Machine/TimerCommands.lean ====
section
/-! DEFINITION. The commands of the timers of the control block, the limit schedule, the gain engines and
the standby monitor, and the end of a frame on the stage link (chapters 5 to 7 and 10.5). -/

namespace Sys2Proof.Machine

/-- FREEZE_TIMER_EXPIRY of a set (R114). -/
def execFreezeTimerExpiry (set : SetIx) (s : State) : Host.Outcome State Fault Refusal :=
  s.act (·.freezeExpiry set)

/-- VENUE_CLOCK_TICK (R94, R97). -/
def execVenueClockTick (s : State) : Host.Outcome State Fault Refusal := s.act State.clockTick

/-- STEP_TIMER_TICK of an engine (R125, R129). -/
def execStepTimerTick (st : Stage) (s : State) : Host.Outcome State Fault Refusal :=
  s.act (·.stepTick st)

/-- HOLD_TIMER_EXPIRY of an engine (R126). -/
def execHoldTimerExpiry (st : Stage) (s : State) : Host.Outcome State Fault Refusal :=
  s.act (·.holdExpiry st)

/-- RELEASE_TIMER_TICK of an engine (R127). -/
def execReleaseTimerTick (st : Stage) (s : State) : Host.Outcome State Fault Refusal :=
  s.act (·.releaseTick st)

/-- REFRESH_TIMER_EXPIRY of an engine (R136). -/
def execRefreshTimerExpiry (st : Stage) (s : State) : Host.Outcome State Fault Refusal :=
  s.act (·.refreshExpiry st)

/-- STAGE_ORDER_SENT: the frame on the stage link has ended (R137). -/
def execStageOrderSent (s : State) : Host.Outcome State Fault Refusal := s.act State.orderSent

/-- DARK_TIMER_EXPIRY (R180). -/
def execDarkTimerExpiry (s : State) : Host.Outcome State Fault Refusal := s.act State.darkExpiry

end Sys2Proof.Machine
end

