-- ==== Sys2Proof/Machine/Dispatch.lean ====
section
/-! DEFINITION. Each command with its meaning. -/

namespace Sys2Proof.Machine

def exec (i : Instr) (s : State) : Host.Outcome State Fault Refusal :=
  match i with
  | .powerOn pins => Sys2Proof.Machine.execPowerOn pins s
  | .pinReset pins => Sys2Proof.Machine.execPinReset pins s
  | .resetNLow => Sys2Proof.Machine.execResetNLow s
  | .supplyBelowRange => Sys2Proof.Machine.execSupplyBelowRange s
  | .meterCharacterReceived inp c good => Sys2Proof.Machine.execMeterCharacterReceived inp c good s
  | .meterReadingFrame inp f => Sys2Proof.Machine.execMeterReadingFrame inp f s
  | .badFrame inp => Sys2Proof.Machine.execBadFrame inp s
  | .meterFrameGapExpiry inp => Sys2Proof.Machine.execMeterFrameGapExpiry inp s
  | .meterLineBreak inp => Sys2Proof.Machine.execMeterLineBreak inp s
  | .aliveTimerExpiry inp => Sys2Proof.Machine.execAliveTimerExpiry inp s
  | .returnTimerExpiry => Sys2Proof.Machine.execReturnTimerExpiry s
  | .reading => Sys2Proof.Machine.execReading s
  | .freshnessTick => Sys2Proof.Machine.execFreshnessTick s
  | .freezeTimerExpiry set => Sys2Proof.Machine.execFreezeTimerExpiry set s
  | .venueClockTick => Sys2Proof.Machine.execVenueClockTick s
  | .stepTimerTick st => Sys2Proof.Machine.execStepTimerTick st s
  | .holdTimerExpiry st => Sys2Proof.Machine.execHoldTimerExpiry st s
  | .releaseTimerTick st => Sys2Proof.Machine.execReleaseTimerTick st s
  | .refreshTimerExpiry st => Sys2Proof.Machine.execRefreshTimerExpiry st s
  | .stageOrderSent => Sys2Proof.Machine.execStageOrderSent s
  | .darkTimerExpiry => Sys2Proof.Machine.execDarkTimerExpiry s
  | .consoleCharacterReceived c good => Sys2Proof.Machine.execConsoleCharacterReceived c good s
  | .consoleFrameDiscarded => Sys2Proof.Machine.execConsoleFrameDiscarded s
  | .consoleFrameGapExpiry => Sys2Proof.Machine.execConsoleFrameGapExpiry s
  | .consoleLineBreak => Sys2Proof.Machine.execConsoleLineBreak s
  | .consoleFrameSent pins => Sys2Proof.Machine.execConsoleFrameSent pins s
  | .requestDiscarded kind seq body => Sys2Proof.Machine.execRequestDiscarded kind seq body s
  | .unknownKind kind seq body => Sys2Proof.Machine.execUnknownKind kind seq body s
  | .status seq body => Sys2Proof.Machine.execStatus seq body s
  | .setTime seq body => Sys2Proof.Machine.execSetTime seq body s
  | .getTime seq body => Sys2Proof.Machine.execGetTime seq body s
  | .start seq body => Sys2Proof.Machine.execStart seq body s
  | .restartFull seq body => Sys2Proof.Machine.execRestartFull seq body s
  | .restartEnforcement seq body => Sys2Proof.Machine.execRestartEnforcement seq body s
  | .declarePoint seq body => Sys2Proof.Machine.execDeclarePoint seq body s
  | .releasePoint seq body => Sys2Proof.Machine.execReleasePoint seq body s
  | .readPoint seq body => Sys2Proof.Machine.execReadPoint seq body s
  | .setCoupling seq body => Sys2Proof.Machine.execSetCoupling seq body s
  | .postPeriod seq body => Sys2Proof.Machine.execPostPeriod seq body s
  | .readPeriod seq body => Sys2Proof.Machine.execReadPeriod seq body s
  | .recallPeriod seq body => Sys2Proof.Machine.execRecallPeriod seq body s
  | .setFallback seq body => Sys2Proof.Machine.execSetFallback seq body s
  | .setStageRates seq body => Sys2Proof.Machine.execSetStageRates seq body s
  | .readStage seq body => Sys2Proof.Machine.execReadStage seq body s
  | .setDark seq body => Sys2Proof.Machine.execSetDark seq body s
  | .readCounters seq body => Sys2Proof.Machine.execReadCounters seq body s
  | .readCountersClear seq body => Sys2Proof.Machine.execReadCountersClear seq body s
  | .exportOne seq body => Sys2Proof.Machine.execExportOne seq body s
  | .exportWalk seq body => Sys2Proof.Machine.execExportWalk seq body s
  | .abortExport seq body => Sys2Proof.Machine.execAbortExport seq body s

end Sys2Proof.Machine
end

