-- ==== Sys2Proof/Machine/Step.lean ====
section
/-! DEFINITION. One step: the command at the front of the queue, or the idle part. -/

namespace Sys2Proof.Machine

/-- Puts the command a word spells at the front of the queue; no row of the table gives bits, so no word
spells one and the state is unchanged (log entry 24). -/
def State.withFetchWord (s : State) (nbits w : Nat) : State :=
  match decodeTableWord nbits w with
  | some i => { s with pending := i :: s.pending }
  | none => s

/-- With no command waiting, the time base goes on by one unit and idle transmitters choose; nothing
happens while a reset holds the part (log entries 2 and 5). -/
def State.idle (s : State) : State := if s.held then s else { s with now := s.now + 1 }.transmit

/-- One step of the part. -/
def step (s : State) : Host.Outcome State Fault Refusal :=
  match s.pending with
  | [] => .next s.idle
  | i :: rest => exec i { s with pending := rest }

end Sys2Proof.Machine
end

