-- ==== Sys2Proof/Safety.lean ====
section
/-! DEFINITION. The terms that claims about the part use: safe runs, the values blocks start with, the
request table as 8.3 prints it, column clears and the monitor's view of the stage meters, and the
invariants of the queues, the schedule, the control block, the gain engines and the point table. -/

namespace Sys2Proof

/-! ### Runs -/

/-- The first `n` steps from a state all answer a next state. -/
def SafeFor : Nat → Machine.State → Prop
  | 0, _ => True
  | n + 1, s => ∃ t, Machine.step s = .next t ∧ SafeFor n t

/-- Every step of the run from a state answers a next state. -/
def Safe (s : Machine.State) : Prop := ∀ n, SafeFor n s

namespace Machine

/-- Some commands, one after the other; the first fault or refusal ends them. -/
def execAll : List Instr → State → Host.Outcome State Fault Refusal
  | [], s => .next s
  | c :: cs, s =>
    match exec c s with
    | .next t => execAll cs t
    | .fault r => .fault r
    | .refused r => .refused r

/-! ### Requests (8.3) -/

/-- The part takes a request: no reset holds it and its reply slot is empty (R148, R175). -/
def State.Ready (s : State) : Prop := s.held = false ∧ s.console.reply = none

/-- The part takes any request: no export runs either (R149, R156). -/
def State.Open (s : State) : Prop := s.Ready ∧ s.exporter.running = false

/-- A request of the kind and sequence has been taken with this reply body; the receiver is in HUNT
(R147, R151). -/
def State.replied (t : State) (kind seq : Byte) (b : List Byte) : State :=
  { t with
    console := { t.console with rx := .hunt, reply := some { kind := kind + 0x80, seq := seq, body := b } } }

/-- One row of the request table of 8.3 with its command. -/
structure RequestRow where
  kind : Byte
  length : Nat
  exempt : Bool
  command : Byte → List Byte → Instr

/-- The request table as 8.3 prints it; a kind that has two rows in the opcode table stands twice. -/
def requestRows : List RequestRow :=
  [⟨0x01, 0, true, .status⟩, ⟨0x02, 4, false, .setTime⟩, ⟨0x03, 0, false, .getTime⟩,
   ⟨0x04, 0, false, .start⟩, ⟨0x05, 1, false, .restartFull⟩, ⟨0x05, 1, false, .restartEnforcement⟩] ++
  [⟨0x10, 5, false, .declarePoint⟩, ⟨0x11, 2, false, .releasePoint⟩, ⟨0x12, 2, false, .readPoint⟩,
   ⟨0x13, 4, false, .setCoupling⟩, ⟨0x20, 22, false, .postPeriod⟩, ⟨0x21, 1, false, .readPeriod⟩] ++
  [⟨0x22, 1, false, .recallPeriod⟩, ⟨0x23, 11, false, .setFallback⟩, ⟨0x30, 4, false, .setStageRates⟩,
   ⟨0x31, 1, false, .readStage⟩, ⟨0x32, 5, false, .setDark⟩, ⟨0x38, 1, true, .readCounters⟩] ++
  [⟨0x38, 1, true, .readCountersClear⟩, ⟨0x3A, 5, false, .exportOne⟩, ⟨0x3A, 5, false, .exportWalk⟩,
   ⟨0x3B, 0, true, .abortExport⟩]

/-! ### The values every block takes after power-on (10.2) -/

/-- A gain engine at its start values, but for the phase of its step timer (R122). -/
def Engine.AtPowerOn (e : Engine) (run : Bool) : Prop :=
  e.state = (if run then .opened else .withheld) ∧ e.applied = 0 ∧ e.target = 0 ∧ e.granted = true ∧
  e.fadeTime = 120 ∧ e.fade = none ∧ e.attack = 20 ∧ e.release = 5 ∧ e.hold = 10 ∧ e.holdAt = none ∧
  e.releaseAt = none ∧ e.due = run ∧ e.refreshAt = none ∧ e.seq = 0 ∧ e.last = none ∧ e.log = [] ∧
  e.misses = 0 ∧ e.matches_ = 0 ∧ e.notFollowing = false ∧ e.lastEcho = none

/-- The limit schedule at its start values; the strict modes have the tighter fallback record (R95, R97,
R100). -/
def Schedule.AtPowerOn (x : Schedule) (strict : Bool) : Prop :=
  (∀ i, x.period i = Period.empty) ∧ x.walk = 0 ∧ x.stall = false ∧ (∀ z : Zone, x.zoneHolder[z] = none) ∧
  (∀ st : Stage, x.stageHolder[st] = none) ∧
  x.fallback =
    { short := if strict then 650 else 750, long := if strict then 600 else 700, k := 15,
      ceiling := if strict then 1150 else 1250, permits := 0b1111#4, fade := 120, margin := 30 } ∧
  x.clockSet = false ∧ x.clock = 0 ∧ x.tickAt = none

/-- The control block at its start values (R119). -/
def Control.AtPowerOn (c : Control) : Prop :=
  (∀ st p, c.couplingAt st p = none ∧ c.needAt st p = 0) ∧ (∀ st : Stage, c.targets[st] = 0) ∧
  ∀ p : SetIx, c.freeze[p] = .active

/-- Every block but the notice queue and counters at its start values, with these straps latched (R36,
R55, R141, R159, R173, R174, R175, R179). -/
def State.AtPowerOn (t : State) (pins : Straps) : Prop :=
  t.straps = pins ∧
  t.meter = { rx := { a := .hunt, b := .hunt }, alive := { a := none, b := none },
              active := if pins.pref = 0 ∨ pins.pref = 2 then .a else .b, returnAt := none } ∧
  t.readings = { queue := [], holding := none } ∧
  (∀ p : SetIx, t.points[p] = { way0 := none, way1 := none, lru := .zero }) ∧
  t.sched.AtPowerOn (pins.mode = 2 || pins.mode = 3) ∧ t.control.AtPowerOn ∧
  (∀ st, (t.engine st).AtPowerOn (pins.mode = 0 || pins.mode = 2)) ∧
  t.link = { line := none, lastStage := none } ∧
  t.console = { rx := .hunt, reply := none, restart := none, line := none } ∧
  t.exporter.running = false ∧ t.exporter.list = [] ∧
  t.standby.enable = false ∧ t.standby.threshold = 450 ∧ t.standby.darkTime = 600 ∧
  t.standby.dark = false ∧ t.standby.timer = none

/-! ### A column that loses its owner, and stage meters that change (3.3, 3.6) -/

/-- A column clear: no coupling, no need, ACTIVE, and the engines whose targets changed are told (R104). -/
def State.columnCleared (s : State) (p : SetIx) : State :=
  State.retarget { s with
    control := { s.control with
      coupling := Vector.ofFn fun st : Stage => (s.control.coupling[st]).set p none
      needs := Vector.ofFn fun st : Stage => (s.control.needs[st]).set p 0
      freeze := s.control.freeze.set p .active } }

/-- The monitor's part of an event that leads from s to u: a stage that gained or lost its meter has
handed on no L1 and is quiet; while the part is not DARK, the dark timer then starts over at the full dark
time if the dark condition holds, and stops otherwise. With the same meters nothing changes (R41, R107,
R180). -/
def State.MonitorFollowsMeters (s u : State) : Prop :=
  let changed (st : Stage) : Bool := (s.meterSlot st).map (·.point) != (u.meterSlot st).map (·.point)
  let quiet : Vector Bool 4 := Vector.ofFn fun st : Stage => changed st || s.standby.quiet[st]
  u.standby = { s.standby with
    quiet := quiet
    lastL1 := Vector.ofFn fun st : Stage => if changed st then none else s.standby.lastL1[st]
    timer :=
      if s.standby.dark = true ∨ (∀ st, changed st = false) then s.standby.timer
      else if s.standby.enable && allStages.any u.hasMeter &&
          allStages.all (fun st => !u.hasMeter st || quiet[st]) then
        some (s.now + s.standby.darkTime * Config.second)
      else none }

/-! ### Bounds of the queues and counters -/

/-- A reading's figures lie in the ranges the conversion clamps them into (R31, R32). -/
def Reading.InRange (r : Reading) : Prop :=
  300 ≤ r.level ∧ r.level ≤ 1400 ∧ 300 ≤ r.peak ∧ r.peak ≤ 1500 ∧ ∀ x, r.echo = some x → x.reduction ≤ 300

/-- At most 64 readings; one is held only behind 64, and carries the OVERRUN mark (R33, R34). -/
def ReadingQueue.Bounded (q : ReadingQueue) : Prop :=
  q.queue.length ≤ 64 ∧ (∀ r ∈ q.queue, r.InRange) ∧
  ∀ r, q.holding = some r → q.queue.length = 64 ∧ r.overrun = true ∧ r.InRange

/-- At most 48 notices, and no counter above its maximum (R161, R166). -/
def Reports.Bounded (r : Reports) : Prop := r.queue.length ≤ 48 ∧ ∀ c, r.counters.get c ≤ c.max

/-! ### The limit schedule -/

/-- Holders are periods in force whose masks name the subject, a period in force holds a subject, and
PENDING stands only at the walk position (R77, R81, R85, R90, R92). -/
def Schedule.HoldersLegal (x : Schedule) : Prop :=
  (∀ (z : Zone) i, x.zoneHolder[z] = some i → (x.period i).state = .inForce ∧ (x.period i).zones.getLsb z = true) ∧
  (∀ (st : Stage) i, x.stageHolder[st] = some i →
    (x.period i).state = .inForce ∧ (x.period i).stages.getLsb st = true) ∧
  (∀ i, (x.period i).state = .inForce →
    (∃ z : Zone, x.zoneHolder[z] = some i) ∨ ∃ st : Stage, x.stageHolder[st] = some i) ∧
  ∀ i, (x.period i).state = .pending → i = x.walk

/-- Stored settings lie in their ranges, and the clock ticks exactly while it is set (R76, R95, R97). -/
def Schedule.SettingsLegal (x : Schedule) : Prop :=
  (∀ i, (x.period i).state ≠ .empty →
    10 ≤ (x.period i).fade ∧ (x.period i).fade ≤ 600 ∧ (x.period i).margin ≤ 100) ∧
  (300 ≤ x.fallback.short ∧ x.fallback.short ≤ 1400 ∧ 300 ≤ x.fallback.long ∧ x.fallback.long ≤ 1400 ∧
    1 ≤ x.fallback.k ∧ x.fallback.k ≤ 15 ∧ 300 ≤ x.fallback.ceiling ∧ x.fallback.ceiling ≤ 1500 ∧
    10 ≤ x.fallback.fade ∧ x.fallback.fade ≤ 600 ∧ x.fallback.margin ≤ 100) ∧
  (x.tickAt.isSome = x.clockSet) ∧ x.clock ≤ Config.max32

/-- The schedule's invariant. -/
def Schedule.Legal (x : Schedule) : Prop := x.HoldersLegal ∧ x.SettingsLegal

/-! ### The control block and the gain engines -/

/-- Couplings lie in 0..900, needs in 0..300, an uncoupled stage needs nothing, and a target is the
largest need of its row (R101, R102, R109). -/
def Control.Legal (c : Control) : Prop :=
  ∀ st : Stage,
    (∀ p, c.needAt st p ≤ 300 ∧ c.needAt st p ≤ c.targets[st] ∧ (c.couplingAt st p = none → c.needAt st p = 0) ∧
      ∀ a, c.couplingAt st p = some a → a ≤ 900) ∧
    ∃ p, c.needAt st p = c.targets[st]

/-- What a state says of the reduction, the target and the timers (R122, R123, R126, R127, R132). -/
def Engine.StateLegal (e : Engine) : Prop :=
  match e.state with
  | .withheld => e.applied = 0 ∧ e.due = false ∧ e.refreshAt = none ∧ e.holdAt = none
  | .opened => e.applied = 0 ∧ e.target = 0
  | .pulling => e.applied < e.target
  | .holding => 0 < e.applied ∧ e.target ≤ e.applied ∧ (e.target < e.applied → e.holdAt.isSome = true)
  | .easing => e.target < e.applied
  | .fading => e.applied < 300 ∧ e.holdAt = none
  | .silenced => e.applied = 300 ∧ e.holdAt = none

/-- A gain engine's record is within its ranges and agrees with its state (R122, R123). -/
def Engine.Legal (e : Engine) : Prop :=
  e.StateLegal ∧ e.applied ≤ 300 ∧ e.target ≤ 300 ∧ 10 ≤ e.fadeTime ∧ e.fadeTime ≤ 600 ∧
  1 ≤ e.attack ∧ e.attack ≤ 100 ∧ 1 ≤ e.release ∧ e.release ≤ 50 ∧ e.hold ≤ 120 ∧ e.misses ≤ 5 ∧ e.matches_ ≤ 5 ∧
  (e.state.limiting = true → e.granted = true) ∧
  (e.state = .fading ∨ e.state = .silenced → e.granted = false) ∧
  (e.releaseAt.isSome = true ↔ e.state = .easing) ∧ (e.fade.isSome = true ↔ e.state = .fading) ∧
  ∀ f, e.fade = some f → 1 ≤ f.step ∧ f.step ≤ 3

/-- Every engine is legal, and holds the control block's target and the schedule's permission (R84,
R102, R124). -/
def State.EnginesLegal (s : State) : Prop :=
  ∀ st, (s.engine st).Legal ∧ (s.engine st).target = s.control.targets[st] ∧
    (s.engine st).granted = s.sched.permission st

/-- The invariant of the path from limits and needs to the gain engines. -/
def State.GainLegal (s : State) : Prop := s.sched.Legal ∧ s.control.Legal ∧ s.EnginesLegal

/-! ### The point table -/

/-- A window record's counts and rings are within their sizes (R56, R70, R73). -/
def WindowRecord.Legal (w : WindowRecord) : Prop :=
  w.minutes.length ≤ 15 ∧ (∀ m ∈ w.minutes, m.count ≤ 60) ∧ w.cur.elapsed < 60 ∧ w.cur.count ≤ w.cur.elapsed ∧
  w.fresh ≤ 60 ∧ (w.stale = false → w.fresh < 60) ∧ w.clear ≤ 9 ∧ w.secs ≤ 65535

/-- A slot of a way of set p: its point belongs there, only way 1 is locked, and no ROAMING point is
(R39, R41, R44). -/
def Slot.Legal (sl : Slot) (p : SetIx) (w : Way) : Prop :=
  setOf sl.point = p ∧ (sl.locked = true → w = .one ∧ sl.use.isRoaming = false) ∧
  sl.minute ≤ Config.max32 ∧ sl.win.Legal

/-- The point table and the columns its locked points own (R39, R41, R42, R116). -/
def State.PointsLegal (s : State) : Prop :=
  (∀ p w sl, s.slotAt p w = some sl → sl.Legal p w) ∧
  (∀ p sl sl', s.slotAt p .zero = some sl → s.slotAt p .one = some sl' → sl.point ≠ sl'.point) ∧
  (∀ st p w sl p' w' sl', s.slotAt p w = some sl → s.slotAt p' w' = some sl' →
    sl.use = .stage st → sl'.use = .stage st → p = p' ∧ w = w') ∧
  ∀ p : SetIx, (s.points[p]).owner = none →
    s.control.freeze[p] = .active ∧ ∀ st, s.control.couplingAt st p = none

end Machine
end Sys2Proof
end

