-- ==== Sys2Proof/Certificates/Slice0/Obligations.lean ====
section
/-! DEFINITION. The statements for the provers. A statement of what a command does says its whole next
state, or says what it changes and that the rest is the state before; the transmitters' choice that ends
every command (`State.transmit`) has statements of its own. -/

open Sys2Proof Sys2Proof.Machine

/-! ### The step -/

/-- A step runs the command at the front of the queue on the state with the queue's rest. With no command
waiting, time goes on by one unit of the time base and idle transmitters choose; that is the model's choice
(log entries 2 and 5). -/
def Obligations.StepRunsTheFrontCommandOrIdles : Prop :=
  (∀ (c : Instr) (rest : List Instr) (s : State), s.pending = c :: rest →
    step s = exec c { s with pending := rest }) ∧
  ∀ s : State, s.pending = [] →
    step s = .next (if s.held then s else State.transmit { s with now := s.now + 1 })

/-- Every command answers a next state in every state, and leaves the queue of waiting commands as it is; so
the run from any state goes on for ever. The spec names no event that stops the part; that there is none is
the model's deduction (log entry 28), and a command that finds nothing to act on, or an empty queue, is the
model's choice (log entries 18 and 5). -/
def Obligations.CommandsCompleteAndLeaveTheQueue : Prop :=
  (∀ (c : Instr) (s : State), ∃ t, exec c s = .next t ∧ t.pending = s.pending) ∧ ∀ s : State, Safe s

/-- After every command that leaves the part running, an idle stage link has no order due, and an idle
console line has no reply, no export frame and no notice to send (7.6, 8.4). The moment of the choice is the
model's (log entry 6). -/
def Obligations.IdleLinesHaveNothingToSend : Prop :=
  ∀ (c : Instr) (s t : State), exec c s = .next t → t.held = false →
    (t.link.line = none → ∀ st, (t.engine st).due = false) ∧
    (t.console.line = none →
      t.console.reply = none ∧ t.exporter.running = false ∧ t.reports.queue = [])

/-! ### Reset and restarts (chapter 10) -/

/-- POWER_ON and PIN_RESET leave every block at its power-on values with the straps latched, no notice
waiting, and every counter at 0 (10.2). The time base and the phases of the free-running ticks are the
model's choice (log entry 2). -/
def Obligations.ResetEndsAtPowerOnValues : Prop :=
  ∀ (pins : Straps) (s : State),
    (∃ t : State, exec (.powerOn pins) s = .next t.transmit ∧ t.AtPowerOn pins ∧ t.reports = Reports.empty ∧
      t.hold = { pin := s.hold.pin, supply := false } ∧ t.pending = s.pending ∧ t.now = s.now) ∧
    ∃ t : State, exec (.pinReset pins) s = .next t.transmit ∧ t.AtPowerOn pins ∧ t.reports = Reports.empty ∧
      t.hold = { pin := false, supply := s.hold.supply } ∧ t.pending = s.pending ∧ t.now = s.now

/-- RESET_N going low, or the supply leaving its range, begins to hold the part: the receivers stop, the
frames on the transmit lines are broken off, and the contents stand until the reset ends. While either holds
it, no other command changes anything (10.2, R175, log entry 16). -/
def Obligations.ResetHoldsThePart : Prop :=
  (∀ s : State,
    exec .resetNLow s = .next
      { s with
        hold := { pin := true, supply := s.hold.supply }
        meter := { s.meter with rx := { a := .hunt, b := .hunt } }
        console := { s.console with rx := .hunt, line := none }
        link := { s.link with line := none } } ∧
    exec .supplyBelowRange s = .next
      { s with
        hold := { pin := s.hold.pin, supply := true }
        meter := { s.meter with rx := { a := .hunt, b := .hunt } }
        console := { s.console with rx := .hunt, line := none }
        link := { s.link with line := none } }) ∧
  ∀ (c : Instr) (s : State), s.hold.pin = true ∨ s.hold.supply = true → (∀ pins, c ≠ .powerOn pins) →
    (∀ pins, c ≠ .pinReset pins) → c ≠ .resetNLow → c ≠ .supplyBelowRange → exec c s = .next s

/-- RESTART replies and marks its restart, which waits for the reply's end; a kind other than FULL 0 and
ENFORCEMENT 1 is refused. The end of the reply to RESTART FULL leaves every block at its power-on values
with the straps latched again; a part that was DARK offers DARK_LEAVE with cause RESTART as notice 0 (8.3,
10.4, R152, R177). That an order frame on the stage link ends within the restart and joins no order log, so
that the link is idle after it, and that the time base and the ticks' phases go on, is the model's deduction
(log entry 7). -/
def Obligations.FullRestartFollowsItsReply : Prop :=
  (∀ (s : State) (seq kind : Byte), s.Open →
    let takes (r : RestartKind) : State := { s with console := { s.console with restart := some r } }
    (kind = 0 → exec (.restartFull seq [kind]) s = .next ((takes .full).replied 0x05 seq [0]).transmit) ∧
    (kind = 1 → exec (.restartEnforcement seq [kind]) s =
      .next ((takes .enforcement).replied 0x05 seq [0]).transmit) ∧
    (2 ≤ kind.toNat → exec (.restartFull seq [kind]) s = .next (s.replied 0x05 seq [1]).transmit)) ∧
  ∀ (pins : Straps) (s : State) (f : ConFrame), s.held = false →
    s.console.line = some { what := .reply, frame := f } → s.console.restart = some .full →
    ∃ t : State, exec (.consoleFrameSent pins) s = .next t.transmit ∧ t.AtPowerOn pins ∧
      t.hold = { pin := false, supply := false } ∧ t.now = s.now ∧ t.freshAt = s.freshAt ∧
      (∀ st, (t.engine st).stepAt = (s.engine st).stepAt) ∧ t.pending = s.pending ∧
      t.reports = (if s.standby.dark
        then { queue := [{ number := 0, notice := .darkLeave .restart }], number := 1, counters := Counters.zero }
        else Reports.empty)

/-- The end of the reply to RESTART ENFORCEMENT clears measurements, needs, queues and counters, and keeps
declarations, the schedule, couplings, applied reductions and the two links; a limiting engine's hold timer
restarts and its release timer stops, unless it eases at once, and a DARK part's refresh timers come down to
1 s (10.4, R136, R142, R178). Times are those of the model's time base (log entry 2). -/
def Obligations.EnforcementRestartKeepsWhatStands : Prop :=
  ∀ (pins : Straps) (s : State) (f : ConFrame), s.held = false →
    s.console.line = some { what := .reply, frame := f } → s.console.restart = some .enforcement →
    ∃ t : State, exec (.consoleFrameSent pins) s = .next t.transmit ∧
      t = { s with
        readings := { queue := [], holding := none }
        points := t.points, control := t.control, engines := t.engines, standby := t.standby
        console := { s.console with line := none, reply := none, restart := none }
        reports := (if s.standby.dark
          then { queue := [{ number := 0, notice := .darkLeave .restart }], number := 1,
                 counters := Counters.zero }
          else Reports.empty) } ∧
      (∀ p w, t.slotAt p w =
        (s.slotAt p w).map fun sl => { sl with dirty := false, win := WindowRecord.empty }) ∧
      (∀ p : SetIx, (t.points[p]).lru = (s.points[p]).lru) ∧
      (∀ st p, t.control.couplingAt st p = s.control.couplingAt st p ∧ t.control.needAt st p = 0) ∧
      (∀ st : Stage, t.control.targets[st] = 0) ∧ (∀ p : SetIx, t.control.freeze[p] = .active) ∧
      (∀ st,
        let e := s.engine st
        t.engine st = { e with
          target := 0
          state :=
            if e.state.limiting then
              if e.applied = 0 then .opened else if e.hold = 0 then .easing else .holding
            else e.state
          holdAt :=
            if e.state.limiting then
              if e.hold = 0 then none else some (s.now + e.hold * Config.second)
            else e.holdAt
          releaseAt :=
            if e.state.limiting then
              if e.applied ≠ 0 ∧ e.hold = 0 then some (s.now + Config.second) else none
            else e.releaseAt
          refreshAt :=
            if s.standby.dark then e.refreshAt.map fun t => min t (s.now + Config.second)
            else e.refreshAt }) ∧
      t.standby = { s.standby with
        dark := false, quiet := Vector.replicate 4 true, lastL1 := Vector.replicate 4 none
        timer := if s.standby.enable && allStages.any s.hasMeter
          then some (s.now + s.standby.darkTime * Config.second) else none }

/-- State.reset is a part at its power-on values with every strap at level 0 (the straps' levels are the
model's choice, log entry 1), and meets the invariants that every step keeps. -/
def Obligations.ResetStateMeetsTheInvariants : Prop :=
  State.reset.AtPowerOn { rate := 0, pref := 0, mode := 0, stale := 0 } ∧
  State.reset.readings.Bounded ∧ State.reset.reports.Bounded ∧ State.reset.GainLegal ∧ State.reset.PointsLegal

/-! ### Meter inputs (chapter 2) -/

/-- The fifteen characters of a valid frame, received one by one by a receiver in HUNT, do what the frame
does whole: every bit of the frame is read back (2.1, 2.2). The premise that the transmitters have nothing
to choose holds after every command of a running part. The command for a whole frame is the model's reading
of its row (log entry 4). -/
def Obligations.MeterCharactersSpellTheFrame : Prop :=
  ∀ (inp : Input) (f : MeterFrame) (s : State), s.held = false → s.transmit = s → s.meter.rx.get inp = .hunt →
    execAll ((meterBytes f).map fun c => .meterCharacterReceived inp c true) s =
      exec (.meterReadingFrame inp f) s

/-- A valid frame restarts its input's alive timer, revives a dead choice, starts the return timer when the
preferred input comes alive, and on the active input offers its reading to the queue (2.3). Times are those
of the model's time base (log entry 2). -/
def Obligations.ValidFrameActsOnItsInput : Prop :=
  ∀ (inp : Input) (f : MeterFrame) (s : State), s.held = false →
    ∃ t : State,
      exec (.meterReadingFrame inp f) s =
        .next (State.transmit (if inp = t.meter.active then t.offerReading (convert f) else t)) ∧
      t = { s with meter := t.meter, reports := t.reports } ∧
      t.meter.rx = s.meter.rx.put inp .hunt ∧
      t.meter.alive = s.meter.alive.put inp (some (s.now + 3 * Config.second)) ∧
      (if s.straps.pref.val ≥ 2 ∧ inp ≠ s.meter.active ∧ s.meter.alive.get s.meter.active = none then
        t.meter.active = inp ∧ t.meter.returnAt = none ∧
        t.reports = s.reports.offer
          (.meterInputSwitch s.meter.active inp .revival (decide (inp = .a)) (decide (inp = .b)))
      else
        t.meter.active = s.meter.active ∧ t.reports = s.reports ∧
        t.meter.returnAt =
          (if s.straps.pref.val ≥ 2 ∧ inp = s.preferred ∧ s.meter.alive.get inp = none ∧
              s.meter.active ≠ inp ∧ (s.meter.alive.get (otherInput inp)).isSome
          then some (s.now + 10 * Config.second) else s.meter.returnAt))

/-- A reading joins the tail unmarked while the queue holds fewer than 64; else it takes the holding slot
marked OVERRUN, and a reading it overwrites is lost and counted. READING takes the head reading out, a held
reading joins the tail in the same removal, and the head is processed; with no reading waiting, the engine
waits (2.5, R33, R34). That READING on an empty queue does nothing is the model's choice (log entry 18). -/
def Obligations.ReadingQueueTakesAndGives : Prop :=
  (∀ (s : State) (r : Reading),
    (s.readings.queue.length < 64 →
      s.offerReading r = { s with
        readings := { s.readings with queue := s.readings.queue ++ [{ r with overrun := false }] } }) ∧
    (64 ≤ s.readings.queue.length → s.readings.holding = none →
      s.offerReading r = { s with readings := { s.readings with holding := some { r with overrun := true } } }) ∧
    ∀ h, 64 ≤ s.readings.queue.length → s.readings.holding = some h →
      s.offerReading r = { s with
        readings := { s.readings with holding := some { r with overrun := true } }
        reports := s.reports.count (.device 4) }) ∧
  ∀ s : State, s.held = false →
    (s.readings.queue = [] → exec .reading s = .next s.transmit) ∧
    ∀ r rest, s.readings.queue = r :: rest →
      exec .reading s = .next (State.transmit (State.processReading
        { s with readings := { queue := rest ++ s.readings.holding.toList, holding := none } } r))

/-- The conversion keeps point, hint and stamp, clamps level and peak, marks a level above 1400, and builds
the echo from ECHO_PRESENT (2.4). -/
def Obligations.ConversionClampsTheFrame : Prop :=
  ∀ f : MeterFrame,
    (convert f).point.val = f.pointWord.toNat % 1024 ∧
    (convert f).hint.val = f.pointWord.toNat / 1024 % 8 ∧ (convert f).stamp = f.stamp ∧
    (convert f).level = max 300 (min 1400 (f.level.toNat % 2048)) ∧
    (convert f).peak = max 300 (min 1500 (f.peak.toNat % 2048)) ∧
    ((convert f).overMark = true ↔ 1400 < f.level.toNat % 2048) ∧
    (convert f).clip = f.flags.getLsbD 0 ∧ (convert f).cal = f.flags.getLsbD 1 ∧
    (convert f).batt = f.flags.getLsbD 2 ∧
    (convert f).echo =
      (if f.flags.getLsbD 3 then some { reduction := min 300 f.echo.toNat, mute := f.flags.getLsbD 4 }
      else none)

/-- A bad frame, a gap expiry in COLLECTING and a break in COLLECTING drop the frame, return the receiver to
HUNT and request one increment of the input's bad-frame counter; in HUNT the last two do nothing (2.2). The
moment of an expiry is the model's choice (log entries 2 and 18). -/
def Obligations.DroppedFramesAreCounted : Prop :=
  ∀ (inp : Input) (s : State), s.held = false →
    let dropped : State :=
      { s with
        meter := { s.meter with rx := s.meter.rx.put inp .hunt }
        reports := s.reports.count (.device (if inp = .a then 0 else 1)) }
    exec (.badFrame inp) s = .next dropped.transmit ∧
    (s.meter.rx.get inp = .hunt →
      exec (.meterFrameGapExpiry inp) s = .next s.transmit ∧ exec (.meterLineBreak inp) s = .next s.transmit) ∧
    ∀ bs due, s.meter.rx.get inp = .collecting bs due →
      exec (.meterFrameGapExpiry inp) s = .next (State.transmit { dropped with now := max s.now due }) ∧
      exec (.meterLineBreak inp) s = .next dropped.transmit

/-- A meter receiver in HUNT answers to a good 0xA5 alone; in COLLECTING it stores good characters, with the
gap timer restarted, until the fifteenth, and drops and counts the frame at a faulty one and at a fifteenth
that does not complete a valid frame (2.2, R20 to R22). Times are those of the model's time base (log entry
2). -/
def Obligations.MeterReceiverTakesCharacters : Prop :=
  ∀ (inp : Input) (c : Byte) (s : State), s.held = false →
    let gathers (bs : List Byte) : State :=
      { s with meter := { s.meter with rx := s.meter.rx.put inp (.collecting bs (s.now + 576)) } }
    let dropped : State := { s with
      meter := { s.meter with rx := s.meter.rx.put inp .hunt }
      reports := s.reports.count (.device (if inp = .a then 0 else 1)) }
    (s.meter.rx.get inp = .hunt →
      exec (.meterCharacterReceived inp c false) s = .next s.transmit ∧
      exec (.meterCharacterReceived inp c true) s =
        .next (State.transmit (if c = 0xA5#8 then gathers [c] else s))) ∧
    ∀ bs due, s.meter.rx.get inp = .collecting bs due →
      exec (.meterCharacterReceived inp c false) s = .next dropped.transmit ∧
      (bs.length < 14 →
        exec (.meterCharacterReceived inp c true) s = .next (gathers (bs ++ [c])).transmit) ∧
      (bs.length = 14 → bs[0]? = some 0xA5#8 → (∀ f, bs ++ [c] ≠ meterBytes f) →
        exec (.meterCharacterReceived inp c true) s = .next dropped.transmit)

/-- At an alive timer's expiry the input is dead; an auto mode fails over from a dead active input to a
living one, and the death of the preferred input stops the return timer. At the return timer's expiry the
preferred input becomes active and the switch is reported. A stopped timer does not expire (2.3). The moment
of an expiry, and that a stopped timer's command does nothing, are the model's choice (log entries 2 and
18). -/
def Obligations.AliveAndReturnTimersMoveTheActiveInput : Prop :=
  (∀ (inp : Input) (s : State), s.held = false →
    (s.meter.alive.get inp = none → exec (.aliveTimerExpiry inp) s = .next s.transmit) ∧
    ∀ due, s.meter.alive.get inp = some due →
      let dead : State :=
        { s with now := max s.now due, meter := { s.meter with alive := s.meter.alive.put inp none } }
      let lives : Bool := (s.meter.alive.get (otherInput inp)).isSome
      exec (.aliveTimerExpiry inp) s =
        .next (State.transmit
          (if s.straps.pref.val < 2 then dead
          else if inp = s.meter.active then
            if lives then
              { dead with
                meter := { dead.meter with active := otherInput inp, returnAt := none }
                reports := s.reports.offer
                  (.meterInputSwitch inp (otherInput inp) .failover (decide (inp = .b)) (decide (inp = .a))) }
            else dead
          else if inp = s.preferred then { dead with meter := { dead.meter with returnAt := none } }
          else dead))) ∧
  ∀ s : State, s.held = false →
    (s.meter.returnAt = none → exec .returnTimerExpiry s = .next s.transmit) ∧
    ∀ due, s.meter.returnAt = some due →
      exec .returnTimerExpiry s =
        .next (State.transmit
          { s with
            now := max s.now due
            meter := { s.meter with active := s.preferred, returnAt := none }
            reports := s.reports.offer
              (.meterInputSwitch s.meter.active s.preferred .return_ s.meter.alive.a.isSome
                s.meter.alive.b.isSome) })

/-! ### Readings, levels and windows (chapters 1, 3.4 and 4) -/

/-- A reading whose stamp repeats the slot's last stamp, or lies up to half the range behind it, is
discarded and counted, and changes nothing else (4.2). -/
def Obligations.RepeatedAndLateReadingsOnlyCount : Prop :=
  ∀ (s : State) (r : Reading) (rest : List Reading) (w : Way) (sl : Slot) (last : Word16), s.held = false →
    s.readings.queue = r :: rest → (s.points[setOf r.point]).find r.point = some w →
    s.slotAt (setOf r.point) w = some sl → sl.win.lastStamp = some last →
    let counted (c : CounterId) : State :=
      { s with
        readings := { queue := rest ++ s.readings.holding.toList, holding := none }
        reports := s.reports.count c }
    (r.stamp = last → exec .reading s = .next (counted (.device 2)).transmit) ∧
    (32769 ≤ (r.stamp - last).toNat → exec .reading s = .next (counted (.device 3)).transmit)

/-- The victim way of a set is a free way, way 0 before way 1; of two occupied ways it is way 0 when way 1
is locked, else the way the LRU mark names; when that way is locked or holds a STAGE point it is the other
way, and there is none when both are so barred. A reading of an absent point is refused and counted when
neither way can be used, or when a dirty victim's summary meets a full queue without a routine notice. Else
its victim leaves, a dirty one with POINT_CLOSED, cause EVICTED_BY_READING, and an export bound to it loses
the binding; the reading is the first of a ROAMING slot in that way, with one second in its ring and its
open minute, and every other slot, declaration and block stands as it was (3.4, 3.5, 4.2 to 4.4, R49 to R51,
R170). -/
def Obligations.ReadingOfAnAbsentPointIsSeatedOrCounted : Prop :=
  (∀ ps : PointSet,
    let barred (sl : Slot) : Prop := sl.locked = true ∨ ∃ st, sl.use = .stage st
    (ps.way0 = none → ps.victim = some .zero) ∧
    (ps.way0 ≠ none → ps.way1 = none → ps.victim = some .one) ∧
    ∀ a b, ps.way0 = some a → ps.way1 = some b →
      (b.locked = true ∨ ps.lru = .zero →
        (¬barred a → ps.victim = some .zero) ∧
        (barred a → ¬barred b → ps.victim = some .one)) ∧
      (b.locked = false → ps.lru = .one →
        (¬barred b → ps.victim = some .one) ∧
        (barred b → ¬barred a → ps.victim = some .zero)) ∧
      (barred a → barred b → ps.victim = none)) ∧
  ∀ (s : State) (r : Reading) (rest : List Reading), s.held = false → s.readings.queue = r :: rest →
    (s.points[setOf r.point]).find r.point = none →
    let p := setOf r.point
    let left : State := { s with
      readings := { queue := rest ++ s.readings.holding.toList, holding := none } }
    ((s.points[p]).victim = none →
      exec .reading s = .next (State.transmit { left with reports := s.reports.count (.device 5) })) ∧
    ∀ w, (s.points[p]).victim = some w →
      (∀ v, s.slotAt p w = some v → v.dirty = true → 48 ≤ s.reports.queue.length →
        (∀ e ∈ s.reports.queue, e.notice.cls ≠ .routine) →
        exec .reading s = .next (State.transmit { left with reports := s.reports.count (.device 6) })) ∧
      ((∀ v, s.slotAt p w = some v → v.dirty = false ∨ s.reports.queue.length < 48 ∨
          ∃ e ∈ s.reports.queue, e.notice.cls = .routine) →
        let closed : Reports := match s.slotAt p w with
          | some v =>
            if v.dirty then s.reports.offer
              (.pointClosed v.point v.use v.minute v.win.secs v.win.worstL1 v.win.worstPeak .evictedByReading)
            else s.reports
          | none => s.reports
        let heard : Reports :=
          if r.batt then closed.offer (.batteryLow r.point (.roaming r.hint)) else closed
        let lim := s.sched.zoneLimits r.hint
        ∃ (t : State) (sl : Slot), exec .reading s = .next t.transmit ∧ t.slotAt p w = some sl ∧
          sl =
            { point := r.point, use := .roaming r.hint, locked := false, dirty := false, minute := 0
              win := { WindowRecord.empty with
                ring := sl.win.ring
                cur := { OpenMinute.empty with
                  elapsed := 1, overrun := r.overrun
                  sum := if r.cal then 0 else energy r.level
                  count := if r.cal then 0 else 1
                  peak := if r.cal then none else some r.peak
                  cal := if r.cal then 1 else 0
                  clip := if r.cal = false ∧ (r.clip = true ∨ r.overMark = true) then 1 else 0 }
                lastStamp := some r.stamp, battery := r.batt
                pk := if r.cal then none else some (recover (energy r.level))
                worstPeak := if r.cal then none else some r.peak } } ∧
          sl.win.ring.toList = List.replicate 59 none ++ [if r.cal then none else some (energy r.level)] ∧
          (t.points[p]).lru = w.other ∧ t.slotAt p w.other = s.slotAt p w.other ∧
          (∀ q : SetIx, q ≠ p → t.points[q] = s.points[q]) ∧
          t = { left with
            points := t.points
            exporter := { s.exporter with
              list := s.exporter.list.map fun e =>
                if (s.slotAt p w).isSome = true ∧ e.set = p ∧ e.way = w then { e with intact := false } else e }
            reports :=
              if r.cal = false ∧ lim.ceiling < r.peak then heard.count (.peaks r.hint) else heard
            sched :=
              if r.cal then s.sched else s.sched.score r.hint false (headroom lim none sl.win.pk) })

/-- An accepted reading of a present point advances the empty seconds of its gap, at most 960, and its own
second, and then marks its slot: last stamp, fresh with a count of 0, battery mark, L1 over at least 30
filled seconds of the ring, and, but for a STAGE point, the projection PK. A slot that was stale offers
POINT_FRESH and tells its owner: the column that a locked BOUNDARY or FOH point owns returns to ACTIVE, or
the monitor hears of the fresh stage meter (log entry 14); a new BATT offers BATTERY_LOW. The role's work
follows on that state (`ReadingIsScoredAndEvaluatedByRole`); in all, the reading touches its way and changes
no other slot, no declaration, no reading that waits, and nothing of the meter unit, the console link or the
export (1.4, 1.6, 4.2, 4.4, 4.7, R9, R12, R13, R57, R59, R65 to R67, R115). -/
def Obligations.AcceptedReadingMarksItsSlot : Prop :=
  ∀ (s : State) (r : Reading) (rest : List Reading) (w : Way) (sl : Slot), s.held = false →
    s.readings.queue = r :: rest → (s.points[setOf r.point]).find r.point = some w →
    s.slotAt (setOf r.point) w = some sl →
    (∀ last, sl.win.lastStamp = some last →
      1 ≤ (r.stamp - last).toNat ∧ (r.stamp - last).toNat ≤ 32768) →
    let p := setOf r.point
    let gap : Nat := match sl.win.lastStamp with
      | some last => min 960 ((r.stamp - last).toNat - 1)
      | none => 0
    let lim := s.limitsFor sl.use
    let b : Bench :=
      (Bench.emptySeconds { slot := sl, reports := s.reports } s.standby.dark lim gap).place
        s.standby.dark lim r
    let es := b.slot.win.ring.toList.filterMap id
    let l1 : Option Nat := if es.length < 30 then none else some (recover (es.sum / es.length))
    let cur := b.slot.win.cur
    let extra : Option Nat := match l1 with
      | some l => some (energy l)
      | none => if cur.count = 0 then none else some (cur.sum / cur.count)
    let terms := b.slot.win.minutes.take (lim.k - 1)
    let pk : Option Nat := extra.map fun e =>
      recover (((terms.map (·.sum)).sum + cur.sum + e * (60 - cur.elapsed)) /
        ((terms.map (·.count)).sum + cur.count + (60 - cur.elapsed)))
    let notices : List Notice :=
      (if sl.win.stale then [.pointFresh sl.point sl.use r.stamp] else []) ++
        (if r.batt = true ∧ sl.win.battery = false then [.batteryLow sl.point sl.use] else [])
    ∃ m t : State, ∃ sl' : Slot,
      m.slotAt p w = some { b.slot with
        win := { b.slot.win with
          lastStamp := some r.stamp, fresh := 0, stale := false, battery := r.batt, l1 := l1
          pk := if sl.use.isStage then none else pk } } ∧
      (m.points[p]).lru = w.other ∧ m.slotAt p w.other = s.slotAt p w.other ∧
      (∀ q : SetIx, q ≠ p → m.points[q] = s.points[q]) ∧
      m = { s with
        readings := { queue := rest ++ s.readings.holding.toList, holding := none }
        points := m.points, reports := notices.foldl Reports.offer b.reports
        control :=
          if sl.win.stale = true ∧ sl.use.fixed = true ∧ (s.points[p]).owner = some sl.point then
            { s.control with freeze := s.control.freeze.set p .active }
          else s.control
        standby := match sl.use with
          | .stage st => if sl.win.stale then (s.stageFresh st).standby else s.standby
          | _ => s.standby } ∧
      t = m.roleWork p w sl.use lim r ∧ exec .reading s = .next t.transmit ∧
      t.slotAt p w = some sl' ∧ sl'.point = sl.point ∧ sl'.use = sl.use ∧
      sl'.locked = sl.locked ∧ sl'.win.lastStamp = some r.stamp ∧ sl'.win.fresh = 0 ∧
      sl'.win.stale = false ∧ sl'.win.battery = r.batt ∧ sl'.win.l1 = shortLevel sl'.win.ring ∧
      (t.points[p]).lru = w.other ∧
      (∀ p' w', ¬(p' = p ∧ w' = w) → t.slotAt p' w' = s.slotAt p' w') ∧
      t = { s with
        readings := { queue := rest ++ s.readings.holding.toList, holding := none }
        points := t.points, sched := t.sched, control := t.control, engines := t.engines
        reports := t.reports, standby := t.standby }

/-- A second shifts the ring by one slot and raises the open minute's elapsed count; an empty one puts
nothing in either, and a reading's second puts its energy in the ring and its energy, count, peak, CLIP and
OVERRUN marks, or a CAL count alone, in the open minute. At 60 the minute closes: its number rises to at
most 4 294 967 295, its record holds the open minute's figures and enters the ring as the newest of at most
fifteen, an empty minute opens, and a fixed point's long level is insufficient without K minutes or without
45 × K readings, and is counted for the zone when it lies above the long limit; while the part is not DARK,
a fixed point or a dirty STAGE point offers MINUTE_DIGEST and clears its since-summary figures and dirty
mark. The empty seconds of a gap follow one after the other; the 960 of a long gap leave an empty second
ring, close sixteen minutes, leave fifteen records of count 0, and leave the open minute's elapsed count as
it was (1.5, 4.2, 4.3, R11, R59 to R65, R68). -/
def Obligations.SecondsAdvanceAndMinutesClose : Prop :=
  (∀ (b : Bench) (dark : Bool) (lim : LimitSet) (e : Option Nat) (cur : OpenMinute), cur.elapsed < 59 →
    b.second dark lim e cur =
      { b with
        slot := { b.slot with
          win := { b.slot.win with
            ring := (b.second dark lim e cur).slot.win.ring
            cur := { cur with elapsed := cur.elapsed + 1 } } } }) ∧
  (∀ (b : Bench) (dark : Bool) (lim : LimitSet) (e : Option Nat) (cur : OpenMinute),
    (b.second dark lim e cur).slot.win.ring.toList = b.slot.win.ring.toList.tail ++ [e]) ∧
  (∀ (b : Bench) (dark : Bool) (lim : LimitSet) (e : Option Nat) (cur : OpenMinute), cur.elapsed = 59 →
    let c := b.second dark lim e cur
    let sl := b.slot
    let digests : Bool := !dark && (sl.use.fixed || (sl.use.isStage && sl.dirty))
    ∃ m : MinuteRecord,
      let ring := (m :: sl.win.minutes).take 15
      let used := ring.take lim.k
      m = { number := min (sl.minute + 1) 4294967295, sum := cur.sum, count := cur.count
            leq := if cur.count = 0 then none else some (recover (cur.sum / cur.count))
            long := m.long, peak := cur.peak, cal := cur.cal, clip := cur.clip
            thin := decide (cur.count < 45), overrun := cur.overrun } ∧
      (sl.use.fixed = false → m.long = .notComputed) ∧
      (sl.use.fixed = true → 1 ≤ lim.k → m.long =
        (if ring.length < lim.k ∨ (used.map (·.count)).sum < 45 * lim.k then .insufficient
        else .code (recover ((used.map (·.sum)).sum / (used.map (·.count)).sum)))) ∧
      c.slot = { sl with
        minute := m.number, dirty := if digests then false else sl.dirty
        win := { sl.win with
          ring := c.slot.win.ring, cur := OpenMinute.empty, minutes := ring
          secs := if digests then 0 else sl.win.secs
          worstL1 := if digests then none else sl.win.worstL1
          worstPeak := if digests then none else sl.win.worstPeak } } ∧
      let counted : Reports := match sl.use.zone, m.long with
        | some z, .code l => if lim.long < l then b.reports.count (.overLong z) else b.reports
        | _, _ => b.reports
      c.reports =
        (if digests then counted.offer
            (.minuteDigest sl.point sl.use m sl.win.secs sl.win.worstL1 sl.win.worstPeak)
        else counted)) ∧
  (∀ (b : Bench) (dark : Bool) (lim : LimitSet) (r : Reading),
    let cur := { b.slot.win.cur with overrun := b.slot.win.cur.overrun || r.overrun }
    (r.cal = true → b.place dark lim r = b.second dark lim none { cur with cal := cur.cal + 1 }) ∧
    (r.cal = false → b.place dark lim r = b.second dark lim (some (energy r.level)) { cur with
      sum := cur.sum + energy r.level, count := cur.count + 1
      peak := some (match cur.peak with
        | some q => max q r.peak
        | none => r.peak)
      clip := if r.clip = true ∨ r.overMark = true then cur.clip + 1 else cur.clip })) ∧
  (∀ (b : Bench) (dark : Bool) (lim : LimitSet) (n : Nat),
    b.emptySeconds dark lim 0 = b ∧
    b.emptySeconds dark lim (n + 1) =
      (b.second dark lim none b.slot.win.cur).emptySeconds dark lim n) ∧
  ∀ (b : Bench) (dark : Bool) (lim : LimitSet), b.slot.win.cur.elapsed < 60 →
    b.slot.minute + 16 ≤ Config.max32 →
    let after := b.emptySeconds dark lim 960
    after.slot.minute = b.slot.minute + 16 ∧ after.slot.win.cur.elapsed = b.slot.win.cur.elapsed ∧
    after.slot.win.cur.count = 0 ∧ after.slot.win.minutes.length = 15 ∧
    (∀ m ∈ after.slot.win.minutes, m.count = 0 ∧ m.sum = 0 ∧ m.leq = none) ∧
    ∀ e ∈ after.slot.win.ring.toList, e = none

/-- Energies rise with the level code from 1000 to 10^14; recovery answers the greatest code whose energy is
not above the energy recovered, and inverts the scale (1.1, 1.2, R5). -/
def Obligations.RecoveryRoundsDownOnTheScale : Prop :=
  energy 300 = 1000 ∧ energy 1400 = 10 ^ 14 ∧
  (∀ l l', 300 ≤ l → l < l' → l' ≤ 1400 → energy l < energy l') ∧
  (∀ x, 1000 ≤ x → x ≤ 10 ^ 14 →
    300 ≤ recover x ∧ recover x ≤ 1400 ∧ energy (recover x) ≤ x ∧
    ∀ l, 300 ≤ l → l ≤ 1400 → energy l ≤ x → l ≤ recover x) ∧
  (∀ l, 300 ≤ l → l ≤ 1400 → recover (energy l) = l) ∧ ∀ x y, x ≤ y → recover x ≤ recover y

/-- Headroom is the least of the terms that have a value, clamped at −400; the excess is the greatest of its
terms and 0, capped at 400; the kind is the first of SHORT, LONG, PEAK whose term is the greatest, and none
when the excess is 0 (1.7, R15 to R17). -/
def Obligations.HeadroomAndExcessCompareWithTheLimits : Prop :=
  ∀ (lim : LimitSet) (l1 pk : Option Nat) (peak : Nat),
    let short : Int := match l1 with
      | some l => (l : Int) - lim.short
      | none => 0
    let long : Int := match pk with
      | some p => (p : Int) - lim.long
      | none => 0
    let high : Int := (peak : Int) - lim.ceiling
    let most : Int := max 0 (max short (max long high))
    (headroom lim l1 pk =
      match l1, pk with
      | none, none => none
      | some _, none => some (max (-400) (-short))
      | none, some _ => some (max (-400) (-long))
      | some _, some _ => some (max (-400) (min (-short) (-long)))) ∧
    (excess lim l1 pk peak : Int) = min 400 most ∧
    dominantKind lim l1 pk peak =
      (if most = 0 then none
      else if short = most then some .short
      else if long = most then some .long
      else some .peak)

/-- In QUIET an excess moves a slot to OVER with EXCEED_ONSET; in OVER an excess sets the clear count to 0,
and the tenth evaluation in a row without excess returns it to QUIET with EXCEED_CLEAR (4.5, R70). -/
def Obligations.ExceedanceClosesAtTheTenthClearEvaluation : Prop :=
  ∀ (sl : Slot) (x : Nat) (kind : Option LimitKind),
    (sl.win.exceeding = false → 0 < x → sl.exceedStep x kind =
      ({ sl with win := { sl.win with exceeding := true, clear := 0 } },
        [.exceedOnset sl.point sl.use kind x sl.win.l1 sl.win.pk])) ∧
    (sl.win.exceeding = false → sl.exceedStep 0 kind = (sl, [])) ∧
    (sl.win.exceeding = true → 0 < x →
      sl.exceedStep x kind = ({ sl with win := { sl.win with clear := 0 } }, [])) ∧
    (sl.win.exceeding = true → sl.win.clear < 9 →
      sl.exceedStep 0 kind = ({ sl with win := { sl.win with clear := sl.win.clear + 1 } }, [])) ∧
    (sl.win.exceeding = true → sl.win.clear = 9 → sl.exceedStep 0 kind =
      ({ sl with win := { sl.win with exceeding := false, clear := 0 } }, [.exceedClear sl.point sl.use]))

/-- A freshness tick raises the count of every fresh slot and turns it stale at the threshold of its role: 4
or 16 ticks for BOUNDARY and FOH by the latched strap, 4 for STAGE, 60 for ROAMING; a stale slot stays as it
is. A slot that turns stale offers POINT_STALE and tells its owner: an ACTIVE column that a locked BOUNDARY
or FOH point owns freezes with its timer at 60 s, or the monitor hears of the stale stage meter. Nothing
else changes (4.7, 6.4, R73, R74, R113). The moment of the tick is the model's choice (log entry 2), and so
is the order in which it visits the slots, set by set (log entry 9). -/
def Obligations.FreshnessTickAgesEverySlot : Prop :=
  ∀ s : State, s.held = false →
    let turns (sl : Slot) : Bool := !sl.win.stale && decide
      ((if sl.use.fixed then (if s.straps.stale = 0 then 4 else 16)
        else if sl.use.isStage then 4 else 60) ≤ sl.win.fresh + 1)
    let turned := s.slots.filter turns
    let frozen (p : SetIx) : Bool := (s.points[p]).slots.any fun sl =>
      turns sl && sl.use.fixed && decide ((s.points[p]).owner = some sl.point)
    let time := max s.now s.freshAt
    ∃ t : State, exec .freshnessTick s = .next t.transmit ∧
      (∀ p w, t.slotAt p w = (s.slotAt p w).map fun sl =>
        if sl.win.stale then sl
        else { sl with win := { sl.win with fresh := sl.win.fresh + 1, stale := turns sl } }) ∧
      (∀ p : SetIx, (t.points[p]).lru = (s.points[p]).lru) ∧
      (∀ p : SetIx, t.control.freeze[p] =
        (if frozen p = true ∧ s.control.freeze[p] = .active then .frozen (time + 60 * Config.second)
        else s.control.freeze[p])) ∧
      (∀ st : Stage, (∃ sl ∈ turned, sl.use = .stage st) → t.standby.quiet[st] = true) ∧
      t = { s with
        now := time, freshAt := s.freshAt + Config.second / 2
        points := t.points, control := { s.control with freeze := t.control.freeze }
        reports := (turned.map fun sl => Notice.pointStale sl.point sl.use sl.win.lastStamp).foldl
          Reports.offer s.reports
        standby := (turned.foldl
          (fun (x : State) sl => match sl.use with
            | .stage st => x.stageStale st
            | _ => x)
          { s with now := time }).standby }

/-! ### The limit schedule (chapter 5) -/

/-- A tick of the set clock counts one second up to the greatest count, retires the periods that have ended,
walks, and cuts short the periods that hold nothing, before the permissions close; an unset clock does not
tick. At the close of a schedule event the engine of each stage whose permission changed is told the new
permission with its holder's fade time, once, and the notices of those tellings (FADE_START, and
STAGE_SILENCED for a fade that ends at its start, as PermissionsStartAndEndFades says) are offered; nothing
else changes. A stage's permission and fade time are its holder's, the fallback record's where no period
holds it (5.2, 5.6, R81, R84, R94, R128, R129). The moment of the tick is the model's choice (log entries 2
and 18), and that the stages are told in stage order is its deduction (log entry 10). -/
def Obligations.ClockTickRunsItsPhasesAndPermissionsClose : Prop :=
  (∀ s : State, s.held = false →
    (s.sched.tickAt = none → exec .venueClockTick s = .next s.transmit) ∧
    ∀ due, s.sched.tickAt = some due →
      let counted : Ledger :=
        { sched := { s.sched with
            clock := if s.sched.clock < 4294967295 then s.sched.clock + 1 else 4294967295
            tickAt := some (due + Config.second) }
          reports := s.reports }
      s.sched.clock ≤ 4294967295 →
      exec .venueClockTick s =
        .next (State.transmit
          (({ s with
            now := max s.now due
            sched := counted.retireEnded.walk.cutShort.sched
            reports := counted.retireEnded.walk.cutShort.reports } : State).permissionClose s.sched))) ∧
  (∀ (x : Schedule) (st : Stage),
    (∀ i, x.stageHolder[st] = some i →
      x.permission st = (x.period i).permits.getLsb st ∧ x.fadeTime st = (x.period i).fade) ∧
    (x.stageHolder[st] = none →
      x.permission st = x.fallback.permits.getLsb st ∧ x.fadeTime st = x.fallback.fade)) ∧
  ∀ (s : State) (before : Schedule),
    let told (st : Stage) : Engine × List Notice :=
      if s.sched.permission st = before.permission st then (s.engine st, [])
      else (s.engine st).permit s.now st (s.sched.permission st) (s.sched.fadeTime st)
    s.permissionClose before = { s with
      engines := Vector.ofFn fun st : Stage => (told st).1
      reports := ((told 0).2 ++ (told 1).2 ++ (told 2).2 ++ (told 3).2).foldl Reports.offer s.reports }

/-- A retirement writes the outcome, keeps the running figures for ENDED and CUT_SHORT alone, clears the
validated mark, hands the period's subjects to the fallback record, and offers PERIOD_RETIRED. The
retirement phase of a tick retires with ENDED exactly the periods in force whose end is not greater than the
clock, and the cut-short phase of an event retires with CUT_SHORT exactly the periods in force that hold no
zone and no stage, each in slot order (5.4, R91 to R93). -/
def Obligations.RetirementHandsBackItsSubjects : Prop :=
  (∀ (l : Ledger) (i : SlotIx) (o : PeriodOutcome),
    let p := l.sched.period i
    let q := (l.retire i o).sched.period i
    q = { p with
      state := .retired, outcome := o, validated := false
      exceed := if o = .ended ∨ o = .cutShort then p.exceed else 0
      worst := if o = .ended ∨ o = .cutShort then p.worst else none } ∧
    (∀ j, j ≠ i → (l.retire i o).sched.period j = l.sched.period j) ∧
    (∀ z : Zone, (l.retire i o).sched.zoneHolder[z] =
      (if l.sched.zoneHolder[z] = some i then none else l.sched.zoneHolder[z])) ∧
    (∀ st : Stage, (l.retire i o).sched.stageHolder[st] =
      (if l.sched.stageHolder[st] = some i then none else l.sched.stageHolder[st])) ∧
    (l.retire i o).sched = { l.sched with
      periods := (l.retire i o).sched.periods, zoneHolder := (l.retire i o).sched.zoneHolder
      stageHolder := (l.retire i o).sched.stageHolder } ∧
    (l.retire i o).reports = l.reports.offer
      (.periodRetired i o p.start p.stop p.zones p.stages q.exceed q.worst
        (if l.sched.clockSet then some l.sched.clock else none))) ∧
  ∀ l : Ledger,
    let x := l.sched
    let phase (o : PeriodOutcome) (goes : SlotIx → Bool) : Ledger :=
      { sched := { x with
          periods := Vector.ofFn fun i : SlotIx =>
            if goes i then { x.period i with state := .retired, outcome := o, validated := false }
            else x.period i
          zoneHolder := Vector.ofFn fun z : Zone => match x.zoneHolder[z] with
            | some i => if goes i then none else some i
            | none => none
          stageHolder := Vector.ofFn fun st : Stage => match x.stageHolder[st] with
            | some i => if goes i then none else some i
            | none => none }
        reports := (List.finRange 32).foldl
          (fun r i =>
            if goes i then r.offer
              (.periodRetired i o (x.period i).start (x.period i).stop (x.period i).zones
                (x.period i).stages (x.period i).exceed (x.period i).worst
                (if x.clockSet then some x.clock else none))
            else r)
          l.reports }
    l.retireEnded = phase .ended (fun i =>
      decide ((x.period i).state = .inForce ∧ (x.period i).stop ≤ x.clock)) ∧
    l.cutShort = phase .cutShort (fun i =>
      decide ((x.period i).state = .inForce ∧ (∀ z : Zone, x.zoneHolder[z] ≠ some i) ∧
        ∀ st : Stage, x.stageHolder[st] ≠ some i))

/-- Every examination of the walk ends at a PENDING period or at a stall: the chain of resolutions is
finite. The examination of a slot that is EMPTY, RETIRED or IN_FORCE sets the stall mark, with
SCHEDULE_STALLED the first time. A WAITING or PENDING period becomes PENDING while the clock is unset. With
the clock set it is validated unless it carries the mark already: an invalid one is REJECTED, one whose end
has come is SKIPPED, one whose start is to come stays PENDING with the mark, and any other takes force with
its start clipped to now and takes every subject of its masks; after a rejection, a skip or a taking of
force the walk moves to the next slot, from 31 to 0, and examines it (5.3, R85 to R90). -/
def Obligations.WalkEndsAtPendingOrStall : Prop :=
  ∀ l : Ledger,
    ((l.walk.sched.period l.walk.sched.walk).state = .pending ∨
      (l.walk.sched.stall = true ∧
        (l.walk.sched.period l.walk.sched.walk).state ≠ .waiting ∧
        (l.walk.sched.period l.walk.sched.walk).state ≠ .pending)) ∧
    let x := l.sched
    let i := x.walk
    let p := x.period i
    let invalid : Prop := p.stop ≤ p.start ∨ (p.zones = 0 ∧ p.stages = 0) ∨ p.short < 300 ∨ 1400 < p.short ∨
      p.long < 300 ∨ 1400 < p.long ∨ p.k < 1 ∨ 15 < p.k ∨ p.ceiling < 300 ∨ 1500 < p.ceiling
    let passes : Prop := p.validated = true ∨ ¬invalid
    let goesOn (k : Ledger) : Ledger := Ledger.walk { k with sched := { k.sched with walk := i + 1 } }
    let becomes (y : Schedule) (q : Period) : Schedule := { y with periods := y.periods.set i q }
    let taken : Schedule := { x with
      zoneHolder := Vector.ofFn fun z : Zone => if p.zones.getLsb z then some i else x.zoneHolder[z]
      stageHolder := Vector.ofFn fun st : Stage =>
        if p.stages.getLsb st then some i else x.stageHolder[st] }
    (p.state = .empty ∨ p.state = .retired ∨ p.state = .inForce →
      (x.stall = true → l.walk = l) ∧
      (x.stall = false → l.walk =
        { sched := { x with stall := true }
          reports := l.reports.offer
            (.scheduleStalled i p.state (if x.clockSet then some x.clock else none)) })) ∧
    (p.state = .waiting ∨ p.state = .pending →
      (x.clockSet = false → l.walk = { l with sched := becomes x { p with state := .pending } }) ∧
      (x.clockSet = true →
        (¬passes → l.walk = goesOn (l.retire i .rejected)) ∧
        (passes → p.stop ≤ x.clock → l.walk = goesOn (l.retire i .skipped)) ∧
        (passes → x.clock < p.stop → x.clock < p.start →
          l.walk = { l with sched := becomes x { p with state := .pending, validated := true } }) ∧
        (passes → x.clock < p.stop → p.start ≤ x.clock →
          l.walk = goesOn { l with sched := becomes taken { p with
            state := .inForce, validated := true, start := x.clock, exceed := 0, worst := none } })))

/-- SET_TIME jumps back more than 300 s past a period in force only to be refused; else it sets the count,
restarts the tick, and clips the starts of periods in force. Both replies carry the clock as it was (5.6,
R98). Times are those of the model's time base (log entry 2). -/
def Obligations.SetTimeMovesTheClock : Prop :=
  ∀ (s : State) (seq t0 t1 t2 t3 : Byte), s.Open →
    let t := le32 t0 t1 t2 t3
    let was : List Byte :=
      u8 (if s.sched.clockSet then 1 else 0) ++ u32 (if s.sched.clockSet then s.sched.clock else 0)
    let jump : Prop := s.sched.clockSet = true ∧
      (∃ i, (s.sched.period i).state = .inForce) ∧ t + 300 < s.sched.clock
    (jump → exec (.setTime seq [t0, t1, t2, t3]) s =
      .next (s.replied 0x02 seq (u8 11 ++ was)).transmit) ∧
    (¬jump → ∃ u : State, exec (.setTime seq [t0, t1, t2, t3]) s =
        .next (u.replied 0x02 seq (u8 0 ++ was)).transmit ∧
      u = { s with
        sched := { s.sched with
          periods := u.sched.periods, clock := t, clockSet := true
          tickAt := some (s.now + Config.second) } } ∧
      ∀ i, u.sched.period i =
        (if s.sched.clockSet = true ∧ t < s.sched.clock ∧ (s.sched.period i).state = .inForce ∧
            t < (s.sched.period i).start
        then { s.sched.period i with start := t } else s.sched.period i))

/-- GET_TIME returns the clock's state, its count, the walk position and the stall mark; READ_PERIOD refuses
a slot of 32 or more and returns the slot's fields and, for a period in force, the zones and stages it
holds. Neither changes anything (5.1, 5.6, R79, R99, log entry 15). -/
def Obligations.ScheduleReadsChangeNothing : Prop :=
  (∀ (s : State) (seq : Byte), s.Open →
    exec (.getTime seq []) s =
      .next (s.replied 0x03 seq
        (u8 0 ++ u8 (if s.sched.clockSet then 1 else 0) ++
          u32 (if s.sched.clockSet then s.sched.clock else 0) ++ u8 s.sched.walk.val ++
          u8 (if s.sched.stall then 1 else 0))).transmit) ∧
  ∀ (s : State) (seq slot : Byte), s.Open →
    let read := exec (.readPeriod seq [slot]) s
    (32 ≤ slot.toNat → read = .next (s.replied 0x21 seq [1]).transmit) ∧
    ∀ i : SlotIx, slot.toNat = i.val →
      let p := s.sched.period i
      ∃ zones stages : BitVec 8,
        (∀ z : Zone, zones.getLsb z = true ↔ p.state = .inForce ∧ s.sched.zoneHolder[z] = some i) ∧
        (∀ b : Zone, stages.getLsb b = true ↔
          p.state = .inForce ∧ ∃ st : Stage, st.val = b.val ∧ s.sched.stageHolder[st] = some i) ∧
        read = .next (s.replied 0x21 seq
          (u8 0 ++ u8 (if p.state = .waiting ∨ p.state = .pending ∨ p.state = .inForce then 1 else 0) ++
            u8 p.state.code ++ u32 p.start ++ u32 p.stop ++ u8 p.zones.toNat ++ u8 p.stages.toNat ++
            u8 p.permits.toNat ++ u16 p.short ++ u16 p.long ++ u8 p.k ++ u16 p.ceiling ++ u16 p.fade ++
            u8 p.margin ++ u8 p.outcome.code ++ u16 p.exceed ++ headroomBytes p.worst ++
            [zones, stages])).transmit

/-- POST_PERIOD refuses a slot of 32 or more and a slot the controller owns; else it writes the period as
WAITING with fade time and margin clamped, clears the stall mark at the walk position, and runs the walk,
the cut-short phase and the permission close; the reply shows the slot after them (5.1, R78, R94). -/
def Obligations.PostPeriodWritesAConsoleOwnedSlot : Prop :=
  ∀ (s : State) (seq slot s0 s1 s2 s3 e0 e1 e2 e3 z st pm h0 h1 l0 l1 k c0 c1 f0 f1 m : Byte), s.Open →
    let post := exec (.postPeriod seq
      [slot, s0, s1, s2, s3, e0, e1, e2, e3, z, st, pm, h0, h1, l0, l1, k, c0, c1, f0, f1, m]) s
    (32 ≤ slot.toNat → post = .next (s.replied 0x20 seq [1]).transmit) ∧
    ∀ i : SlotIx, slot.toNat = i.val →
      ((s.sched.period i).state = .waiting ∨ (s.sched.period i).state = .pending ∨
          (s.sched.period i).state = .inForce →
        post = .next (s.replied 0x20 seq [4]).transmit) ∧
      ((s.sched.period i).state = .empty ∨ (s.sched.period i).state = .retired →
        let written : Schedule := { s.sched with
          periods := s.sched.periods.set i
            { state := .waiting, start := le32 s0 s1 s2 s3, stop := le32 e0 e1 e2 e3, zones := z
              stages := st.setWidth 4, permits := pm.setWidth 4, short := le16 h0 h1, long := le16 l0 l1
              k := k.toNat, ceiling := le16 c0 c1, fade := max 10 (min 600 (le16 f0 f1))
              margin := min 100 m.toNat, outcome := .none, exceed := 0, worst := none, validated := false }
          stall := if i = s.sched.walk then false else s.sched.stall }
        let l : Ledger := Ledger.cutShort (Ledger.walk { sched := written, reports := s.reports })
        let u : State := ({ s with sched := l.sched, reports := l.reports } : State).permissionClose s.sched
        post = .next (u.replied 0x20 seq
          (u8 0 ++ u8 i.val ++ u8 (l.sched.period i).state.code ++
            u8 (l.sched.period i).outcome.code)).transmit)

/-- RECALL_PERIOD withdraws a WAITING or PENDING period, with a walk when it was PENDING, refuses one in
force, and changes nothing on a console-owned slot; a slot of 32 or more is refused (5.1, R80). -/
def Obligations.RecallWithdrawsAWaitingPeriod : Prop :=
  ∀ (s : State) (seq slot : Byte), s.Open →
    let withdraw := exec (.recallPeriod seq [slot]) s
    (32 ≤ slot.toNat → withdraw = .next (s.replied 0x22 seq [1]).transmit) ∧
    ∀ i : SlotIx, slot.toNat = i.val →
      let stands := u8 i.val ++ u8 (s.sched.period i).state.code ++ u8 (s.sched.period i).outcome.code
      ((s.sched.period i).state = .inForce →
        withdraw = .next (s.replied 0x22 seq (u8 5 ++ stands)).transmit) ∧
      ((s.sched.period i).state = .empty ∨ (s.sched.period i).state = .retired →
        withdraw = .next (s.replied 0x22 seq (u8 0 ++ stands)).transmit) ∧
      ((s.sched.period i).state = .waiting ∨ (s.sched.period i).state = .pending →
        let gone : Ledger := Ledger.retire { sched := s.sched, reports := s.reports } i .withdrawn
        let l : Ledger := Ledger.cutShort
          (if (s.sched.period i).state = .pending then
            Ledger.walk { gone with sched := { gone.sched with walk := s.sched.walk + 1 } } else gone)
        let u : State := ({ s with sched := l.sched, reports := l.reports } : State).permissionClose s.sched
        withdraw = .next (u.replied 0x22 seq
          (u8 0 ++ u8 i.val ++ u8 (l.sched.period i).state.code ++
            u8 (l.sched.period i).outcome.code)).transmit)

/-! ### The control block (chapter 6) -/

/-- SET_COUPLING refuses a stage above 3, a set above 15 and a set without an owner; else it writes the
entry (65535 none, at most 900), acts on the need, and tells the stage's engine a changed target; the reply
shows entry, need, target and freeze state (6.2, R103). -/
def Obligations.SetCouplingWritesOneEntry : Prop :=
  ∀ (s : State) (seq st p a0 a1 : Byte), s.Open →
    let couple := exec (.setCoupling seq [st, p, a0, a1]) s
    (4 ≤ st.toNat ∨ 16 ≤ p.toNat → couple = .next (s.replied 0x13 seq [1]).transmit) ∧
    ∀ (stage : Stage) (set : SetIx), st.toNat = stage.val → p.toNat = set.val →
      ((s.points[set]).owner = none → couple = .next (s.replied 0x13 seq [1]).transmit) ∧
      ((s.points[set]).owner.isSome = true →
        let entry : Option Nat := if le16 a0 a1 = 65535 then none else some (min 900 (le16 a0 a1))
        let need : Nat :=
          if entry = none ∧ s.control.couplingAt stage set ≠ none then 0
          else if entry ≠ none ∧ s.control.couplingAt stage set = none ∧ s.control.freeze[set] = .precaution then
            max (s.control.needAt stage set) 30
          else s.control.needAt stage set
        let u : State := State.retarget { s with
          control := { s.control with
            coupling := s.control.coupling.set stage ((s.control.coupling[stage]).set set entry)
            needs := s.control.needs.set stage ((s.control.needs[stage]).set set need) } }
        couple = .next (u.replied 0x13 seq
          (u8 0 ++ u8 stage.val ++ u8 set.val ++ u16 (entry.getD 65535) ++ u16 need ++
            u16 u.control.targets[stage] ++ u8 (s.control.freeze[set]).code)).transmit)

/-- After a change of needs every stage's target is the largest need of its row, and the engines whose
targets changed, and no others, are told once; nothing else changes (6.1, R102). -/
def Obligations.RetargetTellsChangedTargets : Prop :=
  ∀ s : State,
    s.retarget = { s with
      control := { s.control with targets := s.retarget.control.targets }
      engines := s.retarget.engines } ∧
    ∀ st : Stage,
      (∀ p, s.control.needAt st p ≤ s.retarget.control.targets[st]) ∧
      (∃ p, s.control.needAt st p = s.retarget.control.targets[st]) ∧
      s.retarget.engine st =
        (if s.retarget.control.targets[st] = s.control.targets[st] then s.engine st
        else (s.engine st).tell s.now s.retarget.control.targets[st])

/-- A freeze timer's expiry takes a FROZEN set to PRECAUTION and raises the needs of its coupled stages to
at least 30; in any other state there is no timer (6.4, R114). The moment of the expiry is the model's
choice (log entries 2 and 18). -/
def Obligations.FreezeExpiryTakesPrecaution : Prop :=
  ∀ (p : SetIx) (s : State), s.held = false →
    (s.control.freeze[p] = .active ∨ s.control.freeze[p] = .precaution →
      exec (.freezeTimerExpiry p) s = .next s.transmit) ∧
    ∀ due, s.control.freeze[p] = .frozen due →
      ∃ c : Control, exec (.freezeTimerExpiry p) s =
          .next (State.transmit (State.retarget { s with now := max s.now due, control := c })) ∧
        c = { s.control with freeze := s.control.freeze.set p .precaution, needs := c.needs } ∧
        ∀ st q, c.needAt st q =
          (if q = p ∧ (s.control.couplingAt st p).isSome then max (s.control.needAt st p) 30
          else s.control.needAt st q)

/-- A stage is attributed when its contribution, its valid stage level less its coupling, lies within 100 of
the largest; when no coupled stage has one, every coupled stage is attributed. An evaluation of a column
without an owner or a coupling is counted when its excess is above 0; an excess sets each attributed stage's
need from its applied reduction; without an excess a headroom at the margin lets the column's needs fall by
10 (6.3, R105 to R111). -/
def Obligations.EvaluationSetsOrDecaysNeeds : Prop :=
  (∀ (s : State) (p : SetIx) (st : Stage),
    ((∀ st', s.contribution p st' = none) → (s.attributed p st = true ↔ s.control.couplingAt st p ≠ none)) ∧
    ((∃ st', s.contribution p st' ≠ none) →
      (s.attributed p st = true ↔
        ∃ c, s.contribution p st = some c ∧ ∀ st' c', s.contribution p st' = some c' → c' - 100 ≤ c)) ∧
    ∀ c : Int, s.contribution p st = some c ↔
      ∃ sl a l, s.meterSlot st = some sl ∧ sl.win.stale = false ∧ s.control.couplingAt st p = some a ∧
        s.standby.lastL1[st] = some l ∧ c = (l : Int) - a) ∧
  ∀ (s : State) (p : SetIx) (own : Bool) (margin x : Nat) (h : Option Int),
    (own = false ∨ (∀ st, s.control.couplingAt st p = none) →
      s.evaluate p own margin x h = (if x = 0 then s else { s with reports := s.reports.count (.device 8) })) ∧
    (own = true → (∃ st, s.control.couplingAt st p ≠ none) →
      (x = 0 → (∀ v, h = some v → v < margin) → s.evaluate p own margin x h = s) ∧
      ∃ c : Control, c = { s.control with needs := c.needs } ∧
        (x = 0 → ∀ v, h = some v → (margin : Int) ≤ v →
          s.evaluate p own margin x h = State.retarget { s with control := c } ∧
          ∀ st q, c.needAt st q = (if q = p then s.control.needAt st p - 10 else s.control.needAt st q)) ∧
        (0 < x → s.evaluate p own margin x h = State.retarget { s with control := c } ∧
          ∀ st q, c.needAt st q =
            (if q = p ∧ s.attributed p st = true then min 300 ((s.engine st).applied + x)
            else s.control.needAt st q)))

/-! ### The gain engines and the stage link (chapter 7) -/

/-- A told target acts by the engine's state: a rise pulls with the hold timer restarted, an equal target
rests, a fall holds or eases; an engine outside the limiting class stores it; nothing else of the engine
changes, the reduction and the order-due mark included (7.2, R124). Times are those of the model's time base
(log entry 2). -/
def Obligations.ToldTargetsActByState : Prop :=
  ∀ (e : Engine) (now t : Nat),
    let u := e.tell now t
    u.target = t ∧ u.applied = e.applied ∧ u.due = e.due ∧ u.granted = e.granted ∧ u.fade = e.fade ∧
    (e.state = .withheld ∨ e.state = .fading ∨ e.state = .silenced → u = { e with target := t }) ∧
    (e.state = .opened → t ≤ e.applied → u = { e with target := t }) ∧
    (e.state = .opened ∨ e.state = .pulling ∨ e.state = .holding ∨ e.state = .easing → e.applied < t →
      u = { e with
        target := t, state := .pulling
        holdAt := if e.hold = 0 then none else some (now + e.hold * Config.second)
        releaseAt := if e.state = .pulling then e.releaseAt else none }) ∧
    (e.state = .pulling ∨ e.state = .easing → t = e.applied →
      u = { e with
        target := t, state := if t = 0 then .opened else .holding, releaseAt := none }) ∧
    (e.state = .holding → t = e.applied → u = { e with target := t }) ∧
    (e.state = .pulling ∨ e.state = .holding → t < e.applied →
      (e.holdAt = none →
        u = { e with target := t, state := .easing, releaseAt := some (now + Config.second) }) ∧
      (e.holdAt ≠ none → u = { e with target := t, state := .holding })) ∧
    (e.state = .easing → t < e.applied → u = { e with target := t })

/-- A step timer tick raises a PULLING engine by its attack step and a FADING engine by its fade step, makes
the order due, and mutes at 300 with STAGE_SILENCED; in any other state only the next tick's time changes,
100 ms after this one's (7.2, 7.3). The moment of the tick is the model's choice (log entry 2), and the fade
time of STAGE_SILENCED is read as in log entry 13. -/
def Obligations.StepTickRaisesTheReduction : Prop :=
  ∀ (st : Stage) (s : State), s.held = false →
    let e := s.engine st
    let time := max s.now e.stepAt
    let after (x : Engine) (ns : List Notice) : Host.Outcome State Fault Refusal :=
      .next (State.transmit { s with
        now := time, engines := s.engines.set st { x with stepAt := e.stepAt + Config.second / 10 }
        reports := ns.foldl Reports.offer s.reports })
    (e.state ≠ .pulling → e.state ≠ .fading → exec (.stepTimerTick st) s = after e []) ∧
    (e.state = .pulling → 0 < e.attack → e.applied < e.target →
      exec (.stepTimerTick st) s = after
        { e with
          applied := min e.target (e.applied + e.attack), due := true
          state := if e.target ≤ e.applied + e.attack then .holding else .pulling } []) ∧
    ∀ f, e.state = .fading → e.fade = some f → 0 < f.step → e.applied < 300 →
      exec (.stepTimerTick st) s =
        (if e.applied + f.step < 300 then after { e with applied := e.applied + f.step, due := true } []
        else after { e with applied := 300, due := true, state := .silenced, fade := none }
          [.stageSilenced st f.time])

/-- The hold timer's expiry starts the easing of a HOLDING engine above its target; the release tick lowers
an EASING engine by its release step until the target is reached; the refresh timer's expiry makes an order
due; a stopped timer does not expire (7.2, 7.6). The moment of an expiry is the model's choice (log entries
2, 18 and 25). -/
def Obligations.EngineTimersActAtTheirExpiry : Prop :=
  ∀ (st : Stage) (s : State), s.held = false →
    let e := s.engine st
    let after (time : Nat) (x : Engine) : Host.Outcome State Fault Refusal :=
      .next (State.transmit { s with now := time, engines := s.engines.set st x })
    (e.holdAt = none → exec (.holdTimerExpiry st) s = .next s.transmit) ∧
    (∀ due, e.holdAt = some due → exec (.holdTimerExpiry st) s =
      (if e.state = .holding ∧ e.target < e.applied then
        after (max s.now due)
          { e with holdAt := none, state := .easing, releaseAt := some (max s.now due + Config.second) }
      else after (max s.now due) { e with holdAt := none })) ∧
    (e.releaseAt = none → exec (.releaseTimerTick st) s = .next s.transmit) ∧
    (∀ due, e.releaseAt = some due → e.state = .easing → 0 < e.release → e.target < e.applied →
      exec (.releaseTimerTick st) s =
        (if e.target + e.release < e.applied then
          after (max s.now due)
            { e with
              applied := e.applied - e.release, due := true
              releaseAt := some (due + Config.second) }
        else
          after (max s.now due)
            { e with
              applied := e.target, due := true, releaseAt := none
              state := if e.target = 0 then .opened else .holding })) ∧
    (e.refreshAt = none → exec (.refreshTimerExpiry st) s = .next s.transmit) ∧
    ∀ due, e.refreshAt = some due → exec (.refreshTimerExpiry st) s =
      after (max s.now due) { e with refreshAt := none, due := true }

/-- A denial in the limiting class starts a fade with its step and FADE_START, and ends it at once at 300; a
grant ends a fade where it stands, or unmutes at 300, with the hold timer restarted; with a hold time of 0
an engine above its target eases at once; any other telling is recorded and does nothing else (7.3, R126,
R128, R130, R131). Times are those of the model's time base (log entry 2). -/
def Obligations.PermissionsStartAndEndFades : Prop :=
  ∀ (e : Engine) (now : Nat) (st : Stage) (time : Nat), 10 ≤ time → e.applied ≤ 300 →
    let step := max 1 ((300 - e.applied + (10 * time - 1)) / (10 * time))
    let denied := e.permit now st false time
    let granted := e.permit now st true time
    let hold : Timer := if e.hold = 0 then none else some (now + e.hold * Config.second)
    let ease : Timer := some (now + Config.second)
    (e.state.limiting = true → e.applied < 300 → denied =
      ({ e with granted := false, fadeTime := time, state := .fading
                fade := some { step := step, time := time }, holdAt := none, releaseAt := none },
        [.fadeStart st e.applied time step])) ∧
    (e.state.limiting = true → e.applied = 300 → denied =
      ({ e with granted := false, fadeTime := time, state := .silenced, fade := none, holdAt := none
                releaseAt := none, due := true },
        [.fadeStart st 300 time 1, .stageSilenced st time])) ∧
    (e.state.limiting = false → denied = ({ e with granted := false, fadeTime := time }, [])) ∧
    (e.state.limiting = true ∨ e.state = .withheld →
      granted = ({ e with granted := true, fadeTime := time }, [])) ∧
    (e.state = .fading → granted =
      ({ e with granted := true, fadeTime := time, fade := none, holdAt := hold
                state := if e.applied < e.target then .pulling
                  else if e.applied = 0 then .opened
                  else if e.target < e.applied ∧ e.hold = 0 then .easing else .holding
                releaseAt := if 0 < e.applied ∧ e.target < e.applied ∧ e.hold = 0 then ease else e.releaseAt },
        [])) ∧
    (e.state = .silenced → granted =
      ({ e with granted := true, fadeTime := time, due := true, holdAt := hold
                state := if e.target < e.applied ∧ e.hold = 0 then .easing else .holding
                releaseAt := if e.target < e.applied ∧ e.hold = 0 then ease else e.releaseAt }, []))

/-- START releases every WITHHELD engine, in stage order, and replies their marks: a denied one fades from 0
with FADE_START, any other enters OPEN and takes its stored target; an order is due for each. With none
WITHHELD it is refused with NOT_HELD (10.3, R132, R176). Legal engines are an invariant of every step. -/
def Obligations.StartReleasesWithheldEngines : Prop :=
  ∀ (s : State) (seq : Byte), s.Open → (∀ st, (s.engine st).Legal) →
    let held (st : Stage) : Prop := (s.engine st).state = .withheld
    let step (st : Stage) : Nat :=
      max 1 ((300 + (10 * (s.engine st).fadeTime - 1)) / (10 * (s.engine st).fadeTime))
    ((∀ st, ¬held st) → exec (.start seq []) s = .next (s.replied 0x04 seq [12]).transmit) ∧
    ((∃ st, held st) → ∃ u : State,
      exec (.start seq []) s =
        .next (u.replied 0x04 seq
          (u8 0 ++ u8 ((allStages.map fun st =>
            if (s.engine st).state = .withheld then 2 ^ st.val else 0).sum))).transmit ∧
      u = { s with
        engines := u.engines
        reports := allStages.foldl
          (fun r st =>
            if (s.engine st).state = .withheld ∧ (s.engine st).granted = false then
              r.offer (.fadeStart st 0 (s.engine st).fadeTime (step st)) else r)
          s.reports } ∧
      ∀ st,
        (¬held st → u.engine st = s.engine st) ∧
        (held st → (s.engine st).granted = false → u.engine st =
          { s.engine st with
            state := .fading, due := true
            fade := some { step := step st, time := (s.engine st).fadeTime } }) ∧
        (held st → (s.engine st).granted = true → u.engine st =
          Engine.tell { s.engine st with state := .opened, due := true } s.now (s.engine st).target))

/-- When the stage link is idle, the transmitter takes the first engine with an order due, counting
cyclically from the stage after the one it sent last: the mark is cleared, the sequence rises by one, and
the frame carries the reduction and mute as they stand. At the frame's end the order becomes the engine's
last order and joins its log, from which orders older than 2 s leave, and the refresh timer of an engine
that is not WITHHELD runs for 1 s, or 10 s in DARK (7.6, R136, R137). That an order of exactly 2 s counts,
and that the end of a frame on an idle line does nothing, are the model's choice (log entries 18 and 19). -/
def Obligations.OrdersAreChosenInTurnAndLogged : Prop :=
  ∀ s : State,
    (s.link.line ≠ none → s.chooseOrder = s) ∧
    (s.link.line = none → (∀ st, (s.engine st).due = false) → s.chooseOrder = s) ∧
    (s.link.line = none → ∀ first d : Stage,
      first = (match s.link.lastStage with
        | some l => l + 1
        | none => 0) →
      (s.engine (first + d)).due = true → (∀ d', d' < d → (s.engine (first + d')).due = false) →
      let st : Stage := first + d
      let e := s.engine st
      s.chooseOrder = { s with
        engines := s.engines.set st { e with due := false, seq := e.seq + 1 }
        link :=
          { line := some
              { st := st, seq := e.seq + 1
                order := { reduction := e.applied, mute := e.state == .silenced } }
            lastStage := some st } }) ∧
    (s.held = false →
      (s.link.line = none → exec .stageOrderSent s = .next s.transmit) ∧
      ∀ o, s.link.line = some o →
        let e := s.engine o.st
        exec .stageOrderSent s = .next (State.transmit { s with
          link := { s.link with line := none }
          engines := s.engines.set o.st { e with
            last := some o.order
            log := (e.log.filter fun l => s.now ≤ l.sentAt + 2 * Config.second) ++
              [{ order := o.order, sentAt := s.now }]
            refreshAt := if e.state = .withheld then e.refreshAt
              else some (s.now + (if s.standby.dark then 10 else 1) * Config.second) } }))

/-- An echo is compared with the orders of the last 2 s, or with the last order when there are none: their
least and greatest reduction and their mute states are the range; within 10 of it and with a mute state one
of them carried the echo matches. Five mismatches in a row set NOT_FOLLOWING with its notice, five matches
clear it, and without a last order nothing is compared (7.7, R138, R139). That an order of exactly 2 s
counts is the model's choice (log entry 19). -/
def Obligations.EchoStepsTheRuns : Prop :=
  ∀ (e : Engine) (now : Nat) (st : Stage) (x : Echo),
    let recent := (e.log.filter fun l => now ≤ l.sentAt + 2 * Config.second).map (·.order)
    let u : Engine := { e with lastEcho := some x }
    (e.last = none → e.range now = none ∧ e.echo now st x = (u, [])) ∧
    ∀ last, e.last = some last →
      let seen := if recent = [] then [last] else recent
      (∃ r, e.range now = some r ∧
        (∀ o ∈ seen, r.least ≤ o.reduction ∧ o.reduction ≤ r.greatest) ∧
        (∃ o ∈ seen, o.reduction = r.least) ∧ (∃ o ∈ seen, o.reduction = r.greatest) ∧
        (r.unmuted = true ↔ ∃ o ∈ seen, o.mute = false) ∧ (r.muted = true ↔ ∃ o ∈ seen, o.mute = true)) ∧
      let fits : Prop := (∃ o ∈ seen, o.reduction ≤ x.reduction + 10) ∧
        (∃ o ∈ seen, x.reduction ≤ o.reduction + 10) ∧ ∃ o ∈ seen, o.mute = x.mute
      (fits → e.echo now st x =
        ({ u with
          matches_ := min 5 (e.matches_ + 1), misses := 0
          notFollowing := if 4 ≤ e.matches_ then false else e.notFollowing }, [])) ∧
      (¬fits → e.misses < 4 ∨ e.notFollowing = true → e.echo now st x =
        ({ u with misses := min 5 (e.misses + 1), matches_ := 0 }, [])) ∧
      (¬fits → 4 ≤ e.misses → e.notFollowing = false → ∃ r, e.range now = some r ∧ e.echo now st x =
        ({ u with misses := 5, matches_ := 0, notFollowing := true }, [.stageNotFollowing st x r last]))

/-- SET_STAGE_RATES refuses a stage above 3, and else stores the three values clamped into their ranges;
SET_FALLBACK stores every field clamped into its range and closes the permissions. Each replies the values
as stored (5.5, 7.5, R96, R133). -/
def Obligations.SettingsAreStoredClamped : Prop :=
  (∀ (s : State) (seq st a r h : Byte), s.Open →
    (4 ≤ st.toNat → exec (.setStageRates seq [st, a, r, h]) s = .next (s.replied 0x30 seq [1]).transmit) ∧
    ∀ stage : Stage, st.toNat = stage.val →
      let attack := max 1 (min 100 a.toNat)
      let release := max 1 (min 50 r.toNat)
      let hold := min 120 h.toNat
      exec (.setStageRates seq [st, a, r, h]) s = .next (State.transmit (State.replied
        { s with
          engines := s.engines.set stage
            { s.engine stage with attack := attack, release := release, hold := hold } }
        0x30 seq (u8 0 ++ u8 stage.val ++ u8 attack ++ u8 release ++ u8 hold)))) ∧
  ∀ (s : State) (seq h0 h1 l0 l1 k c0 c1 pm f0 f1 m : Byte), s.Open →
    let g : Fallback :=
      { short := max 300 (min 1400 (le16 h0 h1)), long := max 300 (min 1400 (le16 l0 l1))
        k := max 1 (min 15 k.toNat), ceiling := max 300 (min 1500 (le16 c0 c1))
        permits := pm.setWidth 4, fade := max 10 (min 600 (le16 f0 f1)), margin := min 100 m.toNat }
    exec (.setFallback seq [h0, h1, l0, l1, k, c0, c1, pm, f0, f1, m]) s =
      .next (State.transmit (State.replied
        (({ s with sched := { s.sched with fallback := g } } : State).permissionClose s.sched) 0x23 seq
        (u8 0 ++ u16 g.short ++ u16 g.long ++ u8 g.k ++ u16 g.ceiling ++ u8 g.permits.toNat ++ u16 g.fade ++
          u8 g.margin)))

/-! ### The console link (chapter 8) -/

/-- The characters of a console frame, received one by one by a receiver in HUNT, offer the request they
carry when its kind is a request's and are discarded otherwise: start, length, kind, sequence, body and
check are read back (8.1, 8.2). UNKNOWN_KIND stands for a request of the frame's kind; the rows of the table
differ from it in their kind alone. The command for a whole frame is the model's reading of its row (log
entry 4). -/
def Obligations.ConsoleCharactersSpellTheRequest : Prop :=
  ∀ (f : ConFrame) (s : State), f.body.length ≤ 200 → s.held = false → s.transmit = s →
    s.console.rx = .hunt →
    execAll (f.bytes.map fun c => .consoleCharacterReceived c true) s =
      (if 1 ≤ f.kind.toNat ∧ f.kind.toNat ≤ 0x3F then exec (.unknownKind f.kind f.seq f.body) s
      else exec .consoleFrameDiscarded s)

/-- The decoder refuses, in this order, a kind outside the table, a body length other than the table's, and,
while an export runs, a request that is not exempt; the refusal is the reply and changes nothing else (8.3,
R149). -/
def Obligations.DecoderRefusesInOrder : Prop :=
  ∀ (s : State) (seq : Byte) (body : List Byte), s.Ready → body.length ≤ 200 →
    (∀ kind : Byte, 1 ≤ kind.toNat → kind.toNat ≤ 0x3F → kind ∉ requestRows.map (·.kind) →
      exec (.unknownKind kind seq body) s = .next (s.replied kind seq [2]).transmit) ∧
    ∀ row ∈ requestRows,
      (body.length ≠ row.length →
        exec (row.command seq body) s = .next (s.replied row.kind seq [13]).transmit) ∧
      (body.length = row.length → s.exporter.running = true → row.exempt = false →
        exec (row.command seq body) s = .next (s.replied row.kind seq [3]).transmit)

/-- A request that is offered while the reply slot is occupied, and a frame that is discarded, leave the
receiver in HUNT and change nothing else. The receiver in HUNT answers to a good 0x7E alone; in COLLECTING a
faulty character, a break, a gap or a length above 200 discards the frame, and other characters are stored
with the gap timer restarted until the frame is complete; a complete frame whose check fails is discarded
(8.2, 8.3, R145 to R148). The moment of the gap expiry and the commands for whole frames are the model's
choice (log entries 2, 4 and 12). -/
def Obligations.ConsoleReceiverGathersOrDiscards : Prop :=
  ∀ s : State, s.held = false →
    let hunting : State := { s with console := { s.console with rx := .hunt } }
    let gathers (bs : List Byte) : State :=
      { s with console := { s.console with
          rx := .collecting bs (s.now + Config.consoleGap s.straps.rate) } }
    (∀ (seq : Byte) (body : List Byte), body.length ≤ 200 → s.console.reply ≠ none →
      (∀ kind, exec (.requestDiscarded kind seq body) s = .next hunting.transmit) ∧
      ∀ row ∈ requestRows, exec (row.command seq body) s = .next hunting.transmit) ∧
    exec .consoleFrameDiscarded s = .next hunting.transmit ∧
    exec .consoleLineBreak s = .next hunting.transmit ∧
    (s.console.rx = .hunt →
      exec .consoleFrameGapExpiry s = .next s.transmit ∧
      ∀ c, exec (.consoleCharacterReceived c false) s = .next s.transmit ∧
        exec (.consoleCharacterReceived c true) s =
          .next (State.transmit (if c = 0x7E#8 then gathers [c] else s))) ∧
    ∀ bs due, s.console.rx = .collecting bs due →
      exec .consoleFrameGapExpiry s = .next (State.transmit { hunting with now := max s.now due }) ∧
      ∀ c, exec (.consoleCharacterReceived c false) s = .next hunting.transmit ∧
        (bs.length = 1 → exec (.consoleCharacterReceived c true) s =
          .next (State.transmit (if 200 < c.toNat then hunting else gathers (bs ++ [c])))) ∧
        (∀ l : Byte, bs[1]? = some l → l.toNat ≤ 200 → bs.length < 5 + l.toNat →
          exec (.consoleCharacterReceived c true) s = .next (gathers (bs ++ [c])).transmit) ∧
        ∀ l : Byte, bs[0]? = some 0x7E#8 → bs[1]? = some l → l.toNat ≤ 200 → bs.length = 5 + l.toNat →
          (∀ f : ConFrame, bs ++ [c] ≠ f.bytes) →
          exec (.consoleCharacterReceived c true) s = .next hunting.transmit

/-- When the console line is idle the arbiter takes the waiting reply; else the export unit's frame; else
the head notice, which leaves the queue; else nothing. It never breaks into a frame. The end of a notice or
record frame frees the line; the end of a reply also empties the reply slot; the end of an export end stops
the export. A notice frame has the kind of its notice, its number as the sequence, and its fields as the
body, each in the order and encoding of its rule (8.3, 8.4, 9.1, R148, R153, R154, R156, R160, R164). That a
dominant kind of none, which is never sent, would be 255 is the model's choice (log entry 31). That the end
of a frame on an idle line does nothing is the model's choice (log entry 18), and so are the values the idle
export unit holds (log entry 3). -/
def Obligations.ArbiterTakesReplyExportNotice : Prop :=
  (∀ s : State,
    (s.console.line ≠ none → s.chooseFrame = s) ∧
    (s.console.line = none → ∀ r, s.console.reply = some r →
      s.chooseFrame = { s with console := { s.console with line := some { what := .reply, frame := r } } }) ∧
    (s.console.line = none → s.console.reply = none →
      (s.exporter.running = true → ∃ f x, s.exportFrame = some (f, x) ∧
        s.chooseFrame = { s with exporter := x, console := { s.console with line := some f } }) ∧
      (s.exporter.running = false →
        (s.reports.queue = [] → s.chooseFrame = s) ∧
        ∀ e rest, s.reports.queue = e :: rest →
          s.chooseFrame = { s with
            reports := { s.reports with queue := rest }
            console := { s.console with
              line := some
                { what := .notice
                  frame := { kind := e.notice.kind, seq := e.number, body := e.notice.body } } } }))) ∧
  (∀ n : Notice,
    let none16 (v : Option Nat) : List Byte := u16 (v.getD 65535)
    let mark (b : Bool) : List Byte := u8 (if b then 1 else 0)
    let use (u : Use) : List Byte := match u with
      | .boundary z => u8 0 ++ u8 z.val
      | .foh z => u8 1 ++ u8 z.val
      | .stage st => u8 2 ++ u8 st.val
      | .roaming z => u8 3 ++ u8 z.val
    let input (i : Input) : List Byte := u8 (if i = .a then 0 else 1)
    let clock (c : Option Nat) : List Byte := match c with
      | some t => u8 1 ++ u32 t
      | none => u8 0 ++ u32 0
    match n with
    | .exceedOnset p u kind x l1 pk => n.kind = 0x40 ∧ n.body = u16 p.val ++ use u ++
        u8 (match kind with
          | some .short => 0
          | some .long => 1
          | some .peak => 2
          | none => 255) ++ u16 x ++ none16 l1 ++ none16 pk
    | .exceedClear p u => n.kind = 0x41 ∧ n.body = u16 p.val ++ use u
    | .pointStale p u stamp => n.kind = 0x42 ∧ n.body = u16 p.val ++ use u ++ (match stamp with
        | some w => u8 1 ++ u16 w.toNat
        | none => u8 0 ++ u16 0)
    | .pointFresh p u stamp => n.kind = 0x43 ∧ n.body = u16 p.val ++ use u ++ u16 stamp.toNat
    | .pointClosed p u minute secs l1 peak cause => n.kind = 0x44 ∧ n.body = u16 p.val ++ use u ++
        u32 minute ++ u16 secs ++ none16 l1 ++ none16 peak ++ u8 (match cause with
          | .evictedByReading => 0
          | .evictedByDeclaration => 1
          | .released => 2)
    | .minuteDigest p u m secs l1 peak => n.kind = 0x45 ∧ n.body = u16 p.val ++ (use u).drop 1 ++
        u32 m.number ++ none16 m.leq ++ u16 (match m.long with
          | .code l => l
          | .insufficient => 65534
          | .notComputed => 65533) ++ u8 m.count ++ none16 m.peak ++ mark m.thin ++ u8 m.cal ++ u8 m.clip ++
        mark m.overrun ++ u16 secs ++ none16 l1 ++ none16 peak
    | .batteryLow p u => n.kind = 0x46 ∧ n.body = u16 p.val ++ use u
    | .meterInputSwitch was now cause a b => n.kind = 0x47 ∧ n.body = input was ++ input now ++
        u8 (match cause with
          | .failover => 0
          | .revival => 1
          | .return_ => 2) ++ u8 ((if a then 1 else 0) + (if b then 2 else 0))
    | .periodRetired i outcome start stop zones stages exceed worst c => n.kind = 0x48 ∧
        n.body = u8 i.val ++ u8 (match outcome with
          | .none => 0
          | .ended => 1
          | .cutShort => 2
          | .skipped => 3
          | .rejected => 4
          | .withdrawn => 5) ++ u32 start ++ u32 stop ++ u8 zones.toNat ++ u8 stages.toNat ++ u16 exceed ++
        u16 (match worst with
          | some h => BitVec.ofInt 16 h
          | none => 0x8000#16).toNat ++ clock c
    | .scheduleStalled i state c => n.kind = 0x49 ∧ n.body = u8 i.val ++ (match state with
        | .empty => u8 0 ++ u8 0
        | .retired => u8 0 ++ u8 1
        | .waiting => u8 1 ++ u8 2
        | .pending => u8 1 ++ u8 3
        | .inForce => u8 1 ++ u8 4) ++ clock c
    | .fadeStart st applied time step => n.kind = 0x4A ∧
        n.body = u8 st.val ++ u16 applied ++ u16 time ++ u8 step
    | .stageSilenced st time => n.kind = 0x4B ∧ n.body = u8 st.val ++ u16 time
    | .stageNotFollowing st echo r last => n.kind = 0x4C ∧
        n.body = u8 st.val ++ u16 echo.reduction ++ mark echo.mute ++ u16 r.least ++ u16 r.greatest ++
          u8 ((if r.unmuted then 1 else 0) + (if r.muted then 2 else 0)) ++ u16 last.reduction ++ mark last.mute
    | .counterHalf c count => n.kind = 0x4D ∧ n.body = (match c with
        | .device d => u8 d.val ++ u8 255
        | .overShort z => u8 16 ++ u8 z.val
        | .overLong z => u8 17 ++ u8 z.val
        | .peaks z => u8 18 ++ u8 z.val) ++ u16 count
    | .darkEnter metered threshold time => n.kind = 0x4E ∧
        n.body = u8 metered.toNat ++ u16 threshold ++ u16 time
    | .darkLeave cause => n.kind = 0x4F ∧ n.body = match cause with
        | .stageLevel st => u8 0 ++ u8 st.val ++ u8 255
        | .excess p => u8 1 ++ u8 255 ++ u8 p.val
        | .disabled => u8 2 ++ u8 255 ++ u8 255
        | .restart => u8 3 ++ u8 255 ++ u8 255) ∧
  ∀ (pins : Straps) (s : State), s.held = false →
    (s.console.line = none → exec (.consoleFrameSent pins) s = .next s.transmit) ∧
    ∀ f : ConFrame,
      (s.console.line = some { what := .notice, frame := f } ∨
          s.console.line = some { what := .record, frame := f } →
        exec (.consoleFrameSent pins) s =
          .next (State.transmit { s with console := { s.console with line := none } })) ∧
      (s.console.line = some { what := .exportEnd, frame := f } →
        exec (.consoleFrameSent pins) s =
          .next (State.transmit
            { s with console := { s.console with line := none }, exporter := Exporter.idle })) ∧
      (s.console.line = some { what := .reply, frame := f } → s.console.restart = none →
        exec (.consoleFrameSent pins) s =
          .next (State.transmit { s with console := { s.console with line := none, reply := none } }))

/-- STATUS is taken even during an export, changes nothing, and replies 17 bytes: OK, the first active
condition, and the summary fields (8.5, R157, R158). -/
def Obligations.StatusReportsTheFirstCondition : Prop :=
  ∀ (s : State) (seq : Byte), s.Ready →
    let fixed := s.slots.filter (·.use.fixed)
    let stages (f : Engine → Bool) : Nat := (allStages.map fun st => if f (s.engine st) then 2 ^ st.val else 0).sum
    ∃ condition : Nat,
      ((∃ st, (s.engine st).notFollowing = true) → condition = 1) ∧
      ((∀ st, (s.engine st).notFollowing = false) →
        ((∃ st, (s.engine st).state = .fading) → condition = 2) ∧
        ((∀ st, (s.engine st).state ≠ .fading) →
          ((∃ sl ∈ fixed, sl.win.stale = true) → condition = 3) ∧
          ((∀ sl ∈ fixed, sl.win.stale = false) →
            ((∃ sl ∈ fixed, sl.win.exceeding = true) → condition = 4) ∧
            ((∀ sl ∈ fixed, sl.win.exceeding = false) →
              condition =
                (if s.sched.stall then 5 else if s.meter.active ≠ s.preferred then 6
                else if s.sched.clockSet then 0 else 7))))) ∧
      exec (.status seq []) s = .next (s.replied 0x01 seq
        (u8 0 ++ u8 condition ++ u8 (stages (·.notFollowing)) ++ u8 (stages (·.state == .fading)) ++
          u8 (stages (·.state == .silenced)) ++ u8 (stages (·.state == .withheld)) ++
          u8 (fixed.filter (·.win.stale)).length ++ u8 (fixed.filter (·.win.exceeding)).length ++
          u8 (if s.sched.clockSet then 1 else 0) ++ u8 (if s.sched.stall then 1 else 0) ++
          u8 s.sched.walk.val ++ u8 (if s.preferred = .a then 0 else 1) ++
          u8 (if s.meter.active = .a then 0 else 1) ++
          u8 ((if s.meter.alive.a.isSome then 1 else 0) + (if s.meter.alive.b.isSome then 2 else 0)) ++
          u8 (if s.standby.dark then 1 else 0) ++ u8 (if s.exporter.running then 1 else 0) ++
          u8 s.reports.queue.length)).transmit

/-! ### Notices, counters and export (chapter 9) -/

/-- A notice joins the tail with the notice number while fewer than 48 wait. At 48 an urgent or record
notice takes the place of the routine entry nearest the head; otherwise it is dropped with its number, or, a
POINT_CLOSED, refused back with nothing changed. A lost entry is counted. Each notice has the kind and class
of R160 (9.1, R160 to R162). The counter of notices dropped rises by one for each and stays at 65535; at its
midpoint it offers COUNTER_HALF, and that offer, dropped from a full queue, raises it once more (R166,
R167). That the count follows the joining is the model's deduction (log entry 23). -/
def Obligations.FullQueueActsByClass : Prop :=
  ∀ (r : Reports) (n : Notice),
    let joined : Reports :=
      { r with queue := r.queue ++ [{ number := r.number, notice := n }], number := r.number + 1 }
    let routine : NoticeEntry → Bool := fun e => e.notice.cls == .routine
    let dropped : Nat := r.counters.get (.device 7)
    (match n with
      | .exceedOnset .. => n.kind = 0x40 ∧ n.cls = .urgent
      | .exceedClear .. => n.kind = 0x41 ∧ n.cls = .routine
      | .pointStale .. => n.kind = 0x42 ∧ n.cls = .urgent
      | .pointFresh .. => n.kind = 0x43 ∧ n.cls = .routine
      | .pointClosed .. => n.kind = 0x44 ∧ n.cls = .record
      | .minuteDigest .. => n.kind = 0x45 ∧ n.cls = .routine
      | .batteryLow .. => n.kind = 0x46 ∧ n.cls = .routine
      | .meterInputSwitch .. => n.kind = 0x47 ∧ n.cls = .routine
      | .periodRetired .. => n.kind = 0x48 ∧ n.cls = .record
      | .scheduleStalled .. => n.kind = 0x49 ∧ n.cls = .urgent
      | .fadeStart .. => n.kind = 0x4A ∧ n.cls = .urgent
      | .stageSilenced .. => n.kind = 0x4B ∧ n.cls = .urgent
      | .stageNotFollowing .. => n.kind = 0x4C ∧ n.cls = .urgent
      | .counterHalf .. => n.kind = 0x4D ∧ n.cls = .routine
      | .darkEnter .. => n.kind = 0x4E ∧ n.cls = .routine
      | .darkLeave .. => n.kind = 0x4F ∧ n.cls = .routine) ∧
    (65535 ≤ dropped → r.countDrop = r) ∧
    (dropped < 65535 → dropped ≠ 32767 →
      r.countDrop = { r with counters := r.counters.put (.device 7) (dropped + 1) }) ∧
    (dropped = 32767 → r.queue.length < 48 → r.countDrop =
      { queue := r.queue ++ [{ number := r.number, notice := .counterHalf (.device 7) 32768 }]
        number := r.number + 1, counters := r.counters.put (.device 7) 32768 }) ∧
    (dropped = 32767 → 48 ≤ r.queue.length → r.countDrop =
      { r with number := r.number + 1, counters := r.counters.put (.device 7) 32769 }) ∧
    (r.queue.length < 48 → r.offer n = joined ∧ r.offerClosed n = some joined) ∧
    (48 ≤ r.queue.length → ∀ before e after, r.queue = before ++ e :: after →
      (∀ b ∈ before, routine b = false) → routine e = true →
      let displaced : Reports := Reports.countDrop
        { joined with queue := before ++ after ++ [{ number := r.number, notice := n }] }
      (n.cls ≠ .routine → r.offer n = displaced) ∧ r.offerClosed n = some displaced) ∧
    (48 ≤ r.queue.length → n.cls = .routine ∨ (∀ b ∈ r.queue, routine b = false) →
      r.offer n = Reports.countDrop { r with number := r.number + 1 }) ∧
    (48 ≤ r.queue.length → (∀ b ∈ r.queue, routine b = false) → r.offerClosed n = none)

/-- A counter other than that of notices dropped, below its maximum, rises by one at a requested increment;
at its maximum it stays; at its midpoint COUNTER_HALF is offered. READ_COUNTERS replies the nine device
counters in code order and the three counters of each zone, 59 bytes, even during an export; with the clear
flag every counter is 0 afterwards; another flag is refused (9.2, R166 to R168). The two rows of
READ_COUNTERS share one kind (log entry 8). -/
def Obligations.CountersSaturateAndAreRead : Prop :=
  (∀ (r : Reports) (c : CounterId),
    let v := r.counters.get c
    let top := match c with
      | .device _ => 65535
      | .overShort _ => 65535
      | .overLong _ => 65535
      | .peaks _ => 255
    let raised : Reports := { r with counters := r.counters.put c (v + 1) }
    (top ≤ v → r.count c = r) ∧
    (v < top → 2 * (v + 1) ≠ top + 1 → r.count c = raised) ∧
    (v < top → 2 * (v + 1) = top + 1 → r.count c = raised.offer (.counterHalf c (v + 1))) ∧
    raised.counters.get c = v + 1 ∧ ∀ c', c' ≠ c → raised.counters.get c' = r.counters.get c') ∧
  ∀ (s : State) (seq flag : Byte), s.Ready →
    let c := s.reports.counters
    let b : List Byte := u8 0 ++ (List.finRange 9).flatMap (fun d => u16 (c.get (.device d))) ++
      (List.finRange 8).flatMap fun z =>
        u16 (c.get (.overShort z)) ++ u16 (c.get (.overLong z)) ++ u8 (c.get (.peaks z))
    b.length = 59 ∧
    (flag = 0 → exec (.readCounters seq [flag]) s = .next (s.replied 0x38 seq b).transmit) ∧
    (flag = 1 → exec (.readCountersClear seq [flag]) s =
      .next (State.transmit (State.replied
        { s with reports := { s.reports with counters := Counters.zero } } 0x38 seq b))) ∧
    (∀ id, Counters.zero.get id = 0) ∧
    (2 ≤ flag.toNat → exec (.readCounters seq [flag]) s = .next (s.replied 0x38 seq [1]).transmit)

/-- EXPORT in ONE mode lists the named point, which must be in the table; in WALK mode it lists the locked
point of each set in set order; back and span count at most 15, and the reply names the points and the
records to come; another mode is refused. ABORT_EXPORT replies 0 with no export running, 2 with the export
end on the line, and otherwise sets the abort mark and replies 1 (9.3, R169, R172). The two rows of EXPORT
share one kind (log entry 8). -/
def Obligations.ExportsBeginAndAreAborted : Prop :=
  (∀ (s : State) (seq p0 p1 mode back span : Byte), s.Open →
    let id := le16 p0 p1
    let one := exec (.exportOne seq [p0, p1, mode, back, span]) s
    let entry (p : SetIx) (w : Way) (sl : Slot) : ExportEntry :=
      { point := sl.point, set := p, way := w, intact := true
        base := (sl.minute : Int) - (min 15 back.toNat : Nat) }
    let begun (m : ExportMode) (list : List ExportEntry) : State :=
      State.replied
        { s with exporter :=
          { running := true, seq := seq, mode := m, list := list, span := min 15 span.toNat, cursor := 0
            abort := false, sent := 0 } }
        0x3A seq (u8 0 ++ u8 list.length ++ u16 (list.length * (min 15 span.toNat + 1)))
    (mode = 0 → 1024 ≤ id → one = .next (s.replied 0x3A seq [1]).transmit) ∧
    (2 ≤ mode.toNat → one = .next (s.replied 0x3A seq [1]).transmit) ∧
    (∀ pt : PointId, mode = 0 → id = pt.val →
      ((s.points[setOf pt]).find pt = none → one = .next (s.replied 0x3A seq [10]).transmit) ∧
      ∀ w sl, (s.points[setOf pt]).find pt = some w → s.slotAt (setOf pt) w = some sl →
        one = .next (begun .one [entry (setOf pt) w sl]).transmit) ∧
    (mode = 1 → exec (.exportWalk seq [p0, p1, mode, back, span]) s =
      .next (begun .walk (allSets.filterMap fun p =>
        (s.slotAt p .one).bind fun sl => if sl.locked then some (entry p .one sl) else none)).transmit)) ∧
  ∀ (s : State) (seq : Byte), s.Ready →
    let atEnd : Prop := ∃ f, s.console.line = some { what := .exportEnd, frame := f }
    (s.exporter.running = false →
      exec (.abortExport seq []) s = .next (s.replied 0x3B seq [0, 0]).transmit) ∧
    (s.exporter.running = true → atEnd →
      exec (.abortExport seq []) s = .next (s.replied 0x3B seq [0, 2]).transmit) ∧
    (s.exporter.running = true → ¬atEnd →
      exec (.abortExport seq []) s =
        .next (State.transmit (State.replied
          { s with exporter := { s.exporter with abort := true } } 0x3B seq [0, 1])))

/-- The export unit's next frame is the end, aborted, when the abort mark is set; else the record its cursor
names, the records of a point running downwards from its base; else the end, complete. A record moves the
cursor and is counted; a record is PRESENT only from an intact slot that holds the minute (9.3, R170, R171).
-/
def Obligations.ExportSendsRecordsThenItsEnd : Prop :=
  ∀ s : State, s.exporter.running = true →
    let x := s.exporter
    let per := x.span + 1
    let ends (outcome : Byte) : TxFrame :=
      { what := .exportEnd, frame := { kind := 0x61, seq := x.seq, body := [outcome] ++ u16 x.sent } }
    (x.abort = true → s.exportFrame = some (ends 1, x)) ∧
    (x.abort = false → x.list.length * per ≤ x.cursor → s.exportFrame = some (ends 0, x)) ∧
    ∀ (e : ExportEntry) (i d : Nat), x.abort = false → x.list[i]? = some e → d ≤ x.span →
      x.cursor = i * per + d →
      let number := (e.base - (d : Int)).toNat
      ∃ fields : List Byte, s.exportFrame =
          some ({ what := .record
                  frame := { kind := 0x60, seq := x.seq
                             body := u16 e.point.val ++ fields } },
            { x with cursor := x.cursor + 1, sent := x.sent + 1 }) ∧
        (e.intact = false → fields = [255, 255] ++ u32 number ++ [1]) ∧
        ∀ sl, e.intact = true → s.slotAt e.set e.way = some sl →
          (number = 0 ∨ (∀ m ∈ sl.win.minutes, m.number ≠ number) →
            fields = useBytes sl.use ++ u32 number ++ [1]) ∧
          ∀ before m after, 0 < number → sl.win.minutes = before ++ m :: after → m.number = number →
            (∀ m' ∈ before, m'.number ≠ number) →
            fields = useBytes sl.use ++ u32 number ++ [0] ++ presentBytes m

/-! ### Standby (10.5) -/

/-- The dark timer's expiry makes the part DARK and offers DARK_ENTER with the marks of the stages that have
a meter. SET_DARK refuses an enable other than 0 and 1; else it stores the clamped settings and replies
them: disabled, the part leaves DARK with DARK_LEAVE and stops the timer; enabled and not DARK, the timer
runs the full dark time exactly when some stage has a meter and every meter is quiet by the new threshold;
enabled and DARK, it stays DARK. A stage meter's L1 above the threshold clears the stage's quiet mark, any
other sets it; its turning stale sets it, and its turning fresh leaves it as the last L1 gives it (log entry
14); the dark timer then starts, runs on or stops with the condition. A fixed point's excess starts the
timer over. In DARK a loud L1, with its stage, or an excess, with its set, ends it with DARK_LEAVE, refresh
timers at most 1 s from now, and the condition judged again (10.5, R136, R179 to R181). The moment of the
expiry is the model's choice (log entries 2 and 18). -/
def Obligations.DarkTimerAndSettingsActOnStandby : Prop :=
  (∀ s : State, s.held = false →
    (s.standby.timer = none → exec .darkTimerExpiry s = .next s.transmit) ∧
    ∀ due, s.standby.timer = some due → ∃ metered : BitVec 4,
      (∀ st : Stage, metered.getLsb st = true ↔ ∃ sl ∈ s.slots, sl.use = .stage st) ∧
      exec .darkTimerExpiry s =
        .next (State.transmit { s with
          now := max s.now due, standby := { s.standby with dark := true, timer := none }
          reports := s.reports.offer (.darkEnter metered s.standby.threshold s.standby.darkTime) })) ∧
  (∀ s : State,
    let start : Nat := s.now + s.standby.darkTime * Config.second
    let holds (quiet : Vector Bool 4) : Bool := s.standby.enable && allStages.any s.hasMeter &&
      allStages.all fun st => !s.hasMeter st || quiet[st]
    let runsOn (quiet : Vector Bool 4) : Timer :=
      if holds quiet then (if s.standby.timer.isSome then s.standby.timer else some start) else none
    let leaves (x : Standby) (cause : DarkCause) : State := { s with
      standby := { x with dark := false, timer := if holds x.quiet then some start else none }
      engines := Vector.ofFn fun st : Stage =>
        let e := s.engine st
        { e with refreshAt := e.refreshAt.map fun t => min t (s.now + Config.second) }
      reports := s.reports.offer (.darkLeave cause) }
    (∀ st : Stage,
      let stale := s.standby.quiet.set st true
      let fresh := s.standby.quiet.set st (match s.standby.lastL1[st] with
        | some l => decide (l ≤ s.standby.threshold)
        | none => true)
      (s.standby.dark = true →
        s.stageStale st = { s with standby := { s.standby with quiet := stale } } ∧
        s.stageFresh st = { s with standby := { s.standby with quiet := fresh } }) ∧
      (s.standby.dark = false →
        s.stageStale st = { s with standby := { s.standby with quiet := stale, timer := runsOn stale } } ∧
        s.stageFresh st = { s with standby := { s.standby with quiet := fresh, timer := runsOn fresh } }) ∧
      ∀ l1 : Option Nat,
        let loud : Prop := ∃ l, l1 = some l ∧ s.standby.threshold < l
        let heard (q : Bool) : Standby :=
          { s.standby with lastL1 := s.standby.lastL1.set st l1, quiet := s.standby.quiet.set st q }
        (loud → s.standby.dark = false → s.stageL1 st l1 =
          { s with standby := { heard false with timer := runsOn (heard false).quiet } }) ∧
        (¬loud → s.standby.dark = false → s.stageL1 st l1 =
          { s with standby := { heard true with timer := runsOn (heard true).quiet } }) ∧
        (loud → s.standby.dark = true → s.stageL1 st l1 = leaves (heard false) (.stageLevel st)) ∧
        (¬loud → s.standby.dark = true → s.stageL1 st l1 = { s with standby := heard true })) ∧
    ∀ p : SetIx,
      (s.standby.dark = true → s.excessTold p = leaves s.standby (.excess p)) ∧
      (s.standby.dark = false → s.excessTold p =
        { s with standby := { s.standby with
            timer := if holds s.standby.quiet then some start else none } })) ∧
  ∀ (s : State) (seq en t0 t1 d0 d1 : Byte), s.Open →
    let threshold := max 300 (min 900 (le16 t0 t1))
    let time := max 60 (min 3600 (le16 d0 d1))
    let reply (e d : Byte) : List Byte := [0, e] ++ u16 threshold ++ u16 time ++ [d]
    let stored (enable : Bool) : Standby :=
      { s.standby with enable := enable, threshold := threshold, darkTime := time }
    let quiet (st : Stage) : Bool := match s.meterSlot st with
      | some sl => sl.win.stale || (match s.standby.lastL1[st] with
        | some l => decide (l ≤ threshold)
        | none => true)
      | none => true
    let set := exec (.setDark seq [en, t0, t1, d0, d1]) s
    (2 ≤ en.toNat → set = .next (s.replied 0x32 seq [1]).transmit) ∧
    (en = 0 → s.standby.dark = false → set =
      .next (State.transmit (State.replied
        { s with standby := { stored false with timer := none } } 0x32 seq (reply 0 0)))) ∧
    (en = 0 → s.standby.dark = true → ∃ u : State, set = .next (u.replied 0x32 seq (reply 0 0)).transmit ∧
      u = { s with
        standby := { stored false with dark := false, timer := none }, engines := u.engines
        reports := s.reports.offer (.darkLeave .disabled) } ∧
      ∀ st, u.engine st = { s.engine st with
        refreshAt := (s.engine st).refreshAt.map fun t => min t (s.now + Config.second) }) ∧
    (en = 1 → s.standby.dark = true → set =
      .next (State.transmit (State.replied { s with standby := stored true } 0x32 seq (reply 1 1)))) ∧
    (en = 1 → s.standby.dark = false → set =
      .next (State.transmit (State.replied
        { s with standby := { stored true with
            quiet := Vector.ofFn quiet
            timer := if allStages.any s.hasMeter && allStages.all quiet
              then some (s.now + time * Config.second) else none } }
        0x32 seq (reply 1 0))))

/-! ### The point table (chapter 3) -/

/-- DECLARE_POINT is refused, in this order, for a field out of range, for a stage whose meter is another
point, for a set whose way 1 holds another locked point, and for want of a way or of room for the victim's
summary; a refusal changes nothing (3.3, R45, R47). -/
def Obligations.DeclarationsAreRefusedInOrder : Prop :=
  ∀ (s : State) (seq p0 p1 role place lock : Byte), s.Open →
    let declare := exec (.declarePoint seq [p0, p1, role, place, lock]) s
    let refused (status : Byte) : Prop := declare = .next (s.replied 0x10 seq [status]).transmit
    (1024 ≤ le16 p0 p1 ∨ 4 ≤ role.toNat ∨ (role ≠ 2 ∧ 8 ≤ place.toNat) ∨ (role = 2 ∧ 4 ≤ place.toNat) ∨
        2 ≤ lock.toNat ∨ (lock = 1 ∧ role = 3) → refused 1) ∧
    ∀ (pt : PointId) (use : Use), le16 p0 p1 = pt.val →
      role.toNat = use.roleCode → place.toNat = use.place → lock = 0 ∨ (lock = 1 ∧ role ≠ 3) →
      let ps := s.points[setOf pt]
      (∀ st sl, use = .stage st → s.meterSlot st = some sl → sl.point ≠ pt → refused 7) ∧
      ((∀ st sl, use = .stage st → s.meterSlot st = some sl → sl.point = pt) →
        (∀ sl, lock = 1 → ps.way1 = some sl → sl.locked = true → sl.point ≠ pt → refused 6) ∧
        ((∀ sl, lock = 1 → ps.way1 = some sl → sl.locked = true → sl.point = pt) → ps.find pt = none →
          (lock = 0 → ps.victim = none → refused 8) ∧
          ∀ w sl, (if lock = 1 then some .one else ps.victim) = some w → ps.get w = some sl →
            sl.dirty = true → 48 ≤ s.reports.queue.length →
            (∀ e ∈ s.reports.queue, e.notice.cls ≠ .routine) → refused 9))

/-- A declaration that passes its checks leaves the point in its set with the declared role, place and lock,
a lock in way 1, and its way touched. A present point keeps its record where it stands or changes ways with
the other; an absent one begins empty in the way it takes, and the way's former slot is freed. When a
declaration leaves the set's column without its owner, the column is cleared and changed targets are told;
else the control block stands as it was. A stage that gains or loses its meter is quiet with no L1, and the
dark timer starts over or stops (3.3, R42, R46 to R48, R104, R180). -/
def Obligations.DeclarationsPlaceTheirPoint : Prop :=
  ∀ (s : State) (seq p0 p1 role place lock : Byte) (pt : PointId) (use : Use), s.Open →
    le16 p0 p1 = pt.val → role.toNat = use.roleCode → place.toNat = use.place →
    lock = 0 ∨ (lock = 1 ∧ role ≠ 3) →
    (∀ st sl, use = .stage st → s.meterSlot st = some sl → sl.point = pt) →
    let p := setOf pt
    let ps := s.points[p]
    (∀ sl, lock = 1 → ps.way1 = some sl → sl.locked = true → sl.point = pt) →
    let declare := exec (.declarePoint seq [p0, p1, role, place, lock]) s
    (∀ w sl, ps.find pt = some w → ps.get w = some sl →
      let there : Way := if lock = 1 then .one else w
      ∃ u : State, declare = .next (u.replied 0x10 seq
          (u8 0 ++ u8 p.val ++ u8 there.code ++ u8 (if w = there then 0 else 1) ++ u16 65535)).transmit ∧
        u.slotAt p there = some { sl with use := use, locked := decide (lock = 1) } ∧
        u.slotAt p there.other = (if w = there then ps.get there.other else ps.get there) ∧
        (u.points[p]).lru = there.other ∧ (∀ q : SetIx, q ≠ p → u.points[q] = s.points[q]) ∧
        (let lost : Prop := ps.owner ≠ none ∧ (u.points[p]).owner ≠ ps.owner
        (lost → u.control = (s.columnCleared p).control ∧ u.engines = (s.columnCleared p).engines) ∧
        (¬lost → u.control = s.control ∧ u.engines = s.engines)) ∧
        s.MonitorFollowsMeters u ∧
        u = { s with points := u.points, control := u.control, engines := u.engines, standby := u.standby }) ∧
    (ps.find pt = none → ∀ w, (if lock = 1 then some .one else ps.victim) = some w →
      (∀ sl, ps.get w = some sl → sl.dirty = false ∨ s.reports.queue.length < 48 ∨
        ∃ e ∈ s.reports.queue, e.notice.cls = .routine) →
      ∃ u : State, declare = .next (u.replied 0x10 seq
          (u8 0 ++ u8 p.val ++ u8 w.code ++ u8 0 ++
            u16 (((ps.get w).map fun sl => sl.point.val).getD 65535))).transmit ∧
        u.slotAt p w = some { point := pt, use := use, locked := decide (lock = 1), dirty := false
                              minute := 0, win := WindowRecord.empty } ∧
        u.slotAt p w.other = ps.get w.other ∧ (u.points[p]).lru = w.other ∧
        (∀ q : SetIx, q ≠ p → u.points[q] = s.points[q]) ∧
        ((∀ sl, ps.get w = some sl → sl.dirty = false) → u.reports = s.reports) ∧
        (∀ sl, ps.get w = some sl → sl.dirty = true → u.reports = s.reports.offer
          (.pointClosed sl.point sl.use sl.minute sl.win.secs sl.win.worstL1 sl.win.worstPeak
            .evictedByDeclaration)) ∧
        s.MonitorFollowsMeters u ∧
        u = { s with
          points := u.points, standby := u.standby, reports := u.reports
          exporter := { s.exporter with
            list := s.exporter.list.map fun e =>
              if (ps.get w).isSome = true ∧ e.set = p ∧ e.way = w then { e with intact := false } else e } })

/-- RELEASE_POINT refuses an id above 1023 and an absent point; it frees a present point's slot after its
summary is queued, clears the column it owned, with changed targets told, and leaves every other column as
it was. A stage that loses its meter is quiet with no L1, and the dark timer starts over or stops. With a
dirty slot and a full queue without a routine notice it is refused with TABLE_BUSY (3.6, R42, R53, R104,
R180). -/
def Obligations.ReleaseFreesTheSlot : Prop :=
  ∀ (s : State) (seq p0 p1 : Byte), s.Open →
    let release := exec (.releasePoint seq [p0, p1]) s
    (1024 ≤ le16 p0 p1 → release = .next (s.replied 0x11 seq [1]).transmit) ∧
    ∀ pt : PointId, le16 p0 p1 = pt.val →
      let p := setOf pt
      ((s.points[p]).find pt = none → release = .next (s.replied 0x11 seq [10]).transmit) ∧
      ∀ w sl, (s.points[p]).find pt = some w → s.slotAt p w = some sl →
        (sl.dirty = true → 48 ≤ s.reports.queue.length →
          (∀ e ∈ s.reports.queue, e.notice.cls ≠ .routine) →
          release = .next (s.replied 0x11 seq [9]).transmit) ∧
        (sl.dirty = false ∨ s.reports.queue.length < 48 ∨ (∃ e ∈ s.reports.queue, e.notice.cls = .routine) →
          ∃ u : State, release = .next (u.replied 0x11 seq [0]).transmit ∧
            u.slotAt p w = none ∧ u.slotAt p w.other = s.slotAt p w.other ∧
            (u.points[p]).lru = (s.points[p]).lru ∧ (∀ q : SetIx, q ≠ p → u.points[q] = s.points[q]) ∧
            (let owned : Prop := w = .one ∧ sl.locked = true ∧ sl.use.fixed = true
            (owned → u.control = (s.columnCleared p).control ∧ u.engines = (s.columnCleared p).engines ∧
              u.control.freeze[p] = .active ∧
              (∀ st, u.control.couplingAt st p = none ∧ u.control.needAt st p = 0) ∧
              (∀ q : SetIx, q ≠ p → u.control.freeze[q] = s.control.freeze[q] ∧
                ∀ st, u.control.couplingAt st q = s.control.couplingAt st q ∧
                  u.control.needAt st q = s.control.needAt st q) ∧
              ∀ st : Stage, (∀ q, u.control.needAt st q ≤ u.control.targets[st]) ∧
                ∃ q, u.control.needAt st q = u.control.targets[st]) ∧
            (¬owned → u.control = s.control ∧ u.engines = s.engines)) ∧
            s.MonitorFollowsMeters u ∧
            u.reports = (if sl.dirty then s.reports.offer
                (.pointClosed sl.point sl.use sl.minute sl.win.secs sl.win.worstL1 sl.win.worstPeak
                  .released)
              else s.reports) ∧
            u = { s with
              points := u.points, control := u.control, engines := u.engines, standby := u.standby
              reports := u.reports
              exporter := { s.exporter with
                list := s.exporter.list.map fun e =>
                  if e.set = p ∧ e.way = w then { e with intact := false } else e } })

/-- READ_POINT and READ_STAGE reply what the slot, the engine and its row hold, and change nothing;
READ_POINT refuses an id above 1023 and an absent point, READ_STAGE a stage above 3 (3.6, 7.8, R54, R140).
The long level of a close that computed none is sent as none, 65535, by the model's choice (log entry 27),
and the hold time left is read as in log entry 26. -/
def Obligations.PointAndStageReadsChangeNothing : Prop :=
  (∀ (s : State) (seq p0 p1 : Byte), s.Open →
    let read := exec (.readPoint seq [p0, p1]) s
    (1024 ≤ le16 p0 p1 → read = .next (s.replied 0x12 seq [1]).transmit) ∧
    ∀ pt : PointId, le16 p0 p1 = pt.val →
      let p := setOf pt
      ((s.points[p]).find pt = none → read = .next (s.replied 0x12 seq [10]).transmit) ∧
      ∀ w sl, (s.points[p]).find pt = some w → s.slotAt p w = some sl →
        read = .next (s.replied 0x12 seq
          (u8 0 ++ u8 p.val ++ u8 w.code ++ u8 sl.use.roleCode ++ u8 sl.use.place ++
            u8 (if sl.locked then 1 else 0) ++ u8 (if sl.dirty then 1 else 0) ++ u32 sl.minute ++
            u8 sl.win.minutes.length ++ optStamp sl.win.lastStamp ++ u8 (if sl.win.stale then 1 else 0) ++
            u8 (if sl.win.exceeding then 1 else 0) ++ u16 (sl.win.l1.getD 65535) ++
            u16 (sl.win.pk.getD 65535) ++
            (match sl.win.minutes with
              | [] => u16 65535
              | m :: _ => match m.long with
                | .code l => u16 l
                | .insufficient => u16 65534
                | .notComputed => u16 65535))).transmit) ∧
  ∀ (s : State) (seq st : Byte), s.Open →
    (4 ≤ st.toNat → exec (.readStage seq [st]) s = .next (s.replied 0x31 seq [1]).transmit) ∧
    ∀ stage : Stage, st.toNat = stage.val →
      let e := s.engine stage
      let range : List Byte := match e.range s.now with
        | some r =>
          u16 r.least ++ u16 r.greatest ++ u8 ((if r.unmuted then 1 else 0) + (if r.muted then 2 else 0))
        | none => u16 65535 ++ u16 65535 ++ u8 0
      ∃ b : List Byte, exec (.readStage seq [st]) s = .next (s.replied 0x31 seq b).transmit ∧
        b.length = 110 ∧
        b.take 30 = u8 0 ++ u8 stage.val ++ u8 e.state.code ++ u16 e.applied ++ u16 e.target ++
          u8 (if e.granted then 1 else 0) ++ u16 e.fadeTime ++
          u8 ((e.fade.map fun f => f.step).getD 0) ++ u8 e.attack ++ u8 e.release ++ u8 e.hold ++
          u8 ((e.holdAt.map fun t => (t - s.now + (Config.second - 1)) / Config.second).getD 255) ++ [e.seq] ++
          u16 ((e.last.map fun o => o.reduction).getD 65535) ++
          u8 ((e.last.map fun o => if o.mute then 1 else 0).getD 0) ++ range ++
          u16 ((e.lastEcho.map fun o => o.reduction).getD 65535) ++
          u8 ((e.lastEcho.map fun o => if o.mute then 1 else 0).getD 0) ++ u8 e.misses ++ u8 e.matches_ ++
          u8 (if e.notFollowing then 1 else 0) ∧
        ∀ p : SetIx, (b.drop (30 + 5 * p.val)).take 5 =
          u16 ((s.control.couplingAt stage p).getD 65535) ++ u16 (s.control.needAt stage p) ++
            u8 (s.control.freeze[p]).code

/-! ### Invariants that every step keeps -/

/-- Every step keeps the reading queue at most 64 deep, its holding slot behind a full queue, its figures in
range, the notice queue at most 48 deep, and every counter at or below its maximum (2.4, 2.5, 9.1, 9.2). -/
def Obligations.StepsKeepQueuesAndCountersInBounds : Prop :=
  ∀ s t : State, s.readings.Bounded → s.reports.Bounded → step s = .next t →
    t.readings.Bounded ∧ t.reports.Bounded

/-- Every step keeps the schedule's holders in force, a PENDING period at the walk position alone, needs in
0..300, every target the largest need of its row, and every gain engine within its ranges, holding the
control block's target and the schedule's permission (R77, R81, R85, R102, R123). -/
def Obligations.StepsKeepScheduleNeedsAndEnginesLegal : Prop :=
  ∀ s t : State, s.GainLegal → step s = .next t → t.GainLegal

/-- Every step keeps each point in its set once, locks in way 1 and off ROAMING points, one meter for each
stage, window records within their sizes, and couplings and freezes only in columns that a locked BOUNDARY
or FOH point owns (R39, R41, R42, R56, R116). -/
def Obligations.StepsKeepThePointTableLegal : Prop :=
  ∀ s t : State, s.PointsLegal → step s = .next t → t.PointsLegal

/-! ### The role work of a reading (4.4 to 4.6) -/

/-- A reading's role work. A reading of a BOUNDARY, FOH or ROAMING slot that is no CAL reading is scored
against its zone's holder: an over-short second counts for the zone, adds to the slot's since-summary
seconds, sets its dirty mark and adds to the exceed seconds of the period that holds the zone; a peak event
counts for the zone; the worst L1, the worst peak and the period's worst headroom follow. A fixed slot then
steps its exceedance state and is evaluated by the control block, and an excess is told to the monitor; that
the control block comes before the monitor is the model's choice (log entry 33). A STAGE slot hands its L1
to the monitor and its echo to its engine. A ROAMING or STAGE slot in OVER returns to QUIET (log entry 11).
A CAL reading is not scored and not evaluated (4.2, 4.4 to 4.6, 5.2, 6.5, R61, R66, R69 to R72, R81 to R83).
-/
def Obligations.ReadingIsScoredAndEvaluatedByRole : Prop :=
  (∀ (s : State) (z : Zone),
    s.limitsFor (.boundary z) = s.sched.zoneLimits z ∧ s.limitsFor (.foh z) = s.sched.zoneLimits z ∧
    s.limitsFor (.roaming z) = s.sched.zoneLimits z ∧
    (∀ i, s.sched.zoneHolder[z] = some i → s.sched.zoneLimits z =
      { short := (s.sched.period i).short, long := (s.sched.period i).long, k := (s.sched.period i).k
        ceiling := (s.sched.period i).ceiling, margin := (s.sched.period i).margin }) ∧
    (s.sched.zoneHolder[z] = none → s.sched.zoneLimits z =
      { short := s.sched.fallback.short, long := s.sched.fallback.long, k := s.sched.fallback.k
        ceiling := s.sched.fallback.ceiling, margin := s.sched.fallback.margin })) ∧
  ∀ (m : State) (p : SetIx) (w : Way) (sl : Slot) (lim : LimitSet) (r : Reading), m.slotAt p w = some sl →
    let loud : Bool := match sl.win.l1 with
      | some l => decide (lim.short < l)
      | none => false
    let most (old : Option Nat) (v : Nat) : Option Nat := some (match old with
      | some x => max x v
      | none => v)
    let h := headroom lim sl.win.l1 sl.win.pk
    let x := excess lim sl.win.l1 sl.win.pk r.peak
    let scored : Slot := { sl with
      dirty := sl.dirty || loud
      win := { sl.win with
        secs := if loud then min (sl.win.secs + 1) 65535 else sl.win.secs
        worstL1 := match sl.win.l1 with
          | some l => most sl.win.worstL1 l
          | none => sl.win.worstL1
        worstPeak := most sl.win.worstPeak r.peak } }
    let counted (z : Zone) : Reports :=
      let a := if loud then m.reports.count (.overShort z) else m.reports
      if lim.ceiling < r.peak then a.count (.peaks z) else a
    let sched (z : Zone) : Schedule := match m.sched.zoneHolder[z] with
      | none => m.sched
      | some i =>
        let q := m.sched.period i
        { m.sched with periods := m.sched.periods.set i { q with
            exceed := if loud then min (q.exceed + 1) 65535 else q.exceed
            worst := match h, q.worst with
              | some v, some u => some (min u v)
              | some v, none => some v
              | none, u => u } }
    let ended (q : Slot) : Slot :=
      if q.win.exceeding then { q with win := { q.win with exceeding := false, clear := 0 } } else q
    let clears : List Notice := if sl.win.exceeding then [.exceedClear sl.point sl.use] else []
    (∀ z, r.cal = true →
      m.roleWork p w (.boundary z) lim r = m ∧ m.roleWork p w (.foh z) lim r = m ∧
      m.roleWork p w (.roaming z) lim r =
        State.putSlot { m with reports := clears.foldl Reports.offer m.reports } p w (some (ended sl))) ∧
    (∀ z, r.cal = false →
      m.roleWork p w (.roaming z) lim r =
        State.putSlot { m with sched := sched z, reports := clears.foldl Reports.offer (counted z) } p w
          (some (ended scored)) ∧
      ∀ use, use = .boundary z ∨ use = .foh z →
        let stepped := scored.exceedStep x (dominantKind lim sl.win.l1 sl.win.pk r.peak)
        let e : State := State.putSlot
          { m with sched := sched z, reports := stepped.2.foldl Reports.offer (counted z) } p w (some stepped.1)
        let v := e.evaluate p (decide (w = .one) && sl.locked) lim.margin x h
        (x = 0 → m.roleWork p w use lim r = v) ∧ (0 < x → m.roleWork p w use lim r = v.excessTold p)) ∧
    ∀ st,
      let d := State.stageL1
        (State.putSlot { m with reports := clears.foldl Reports.offer m.reports } p w (some (ended sl))) st
        sl.win.l1
      (r.echo = none → m.roleWork p w (.stage st) lim r = d) ∧
      ∀ y, r.echo = some y →
        let u := (d.engine st).echo d.now st y
        m.roleWork p w (.stage st) lim r =
          { d with engines := d.engines.set st u.1, reports := u.2.foldl Reports.offer d.reports }
end

