-- ==== Sys2Proof/Laws/State.lean ====
section
/-! SUPPORT. One lemma per field per record update of the state, each true by rfl, and the reads of what
the part's writes of a way, an engine, an input or a counter leave. -/

namespace Sys2Proof.Machine

/-! ### putSlot -/

@[simp] theorem State.putSlot_hold (s : State) (p : SetIx) (w : Way) (x : Option Slot) :
    (s.putSlot p w x).hold = s.hold := rfl
@[simp] theorem State.putSlot_straps (s : State) (p : SetIx) (w : Way) (x : Option Slot) :
    (s.putSlot p w x).straps = s.straps := rfl
@[simp] theorem State.putSlot_now (s : State) (p : SetIx) (w : Way) (x : Option Slot) :
    (s.putSlot p w x).now = s.now := rfl
@[simp] theorem State.putSlot_freshAt (s : State) (p : SetIx) (w : Way) (x : Option Slot) :
    (s.putSlot p w x).freshAt = s.freshAt := rfl
@[simp] theorem State.putSlot_meter (s : State) (p : SetIx) (w : Way) (x : Option Slot) :
    (s.putSlot p w x).meter = s.meter := rfl
@[simp] theorem State.putSlot_readings (s : State) (p : SetIx) (w : Way) (x : Option Slot) :
    (s.putSlot p w x).readings = s.readings := rfl
@[simp] theorem State.putSlot_points (s : State) (p : SetIx) (w : Way) (x : Option Slot) :
    (s.putSlot p w x).points = s.points.set p ((s.points[p]).put w x) := rfl
@[simp] theorem State.putSlot_sched (s : State) (p : SetIx) (w : Way) (x : Option Slot) :
    (s.putSlot p w x).sched = s.sched := rfl
@[simp] theorem State.putSlot_control (s : State) (p : SetIx) (w : Way) (x : Option Slot) :
    (s.putSlot p w x).control = s.control := rfl
@[simp] theorem State.putSlot_engines (s : State) (p : SetIx) (w : Way) (x : Option Slot) :
    (s.putSlot p w x).engines = s.engines := rfl
@[simp] theorem State.putSlot_link (s : State) (p : SetIx) (w : Way) (x : Option Slot) :
    (s.putSlot p w x).link = s.link := rfl
@[simp] theorem State.putSlot_console (s : State) (p : SetIx) (w : Way) (x : Option Slot) :
    (s.putSlot p w x).console = s.console := rfl
@[simp] theorem State.putSlot_reports (s : State) (p : SetIx) (w : Way) (x : Option Slot) :
    (s.putSlot p w x).reports = s.reports := rfl
@[simp] theorem State.putSlot_exporter (s : State) (p : SetIx) (w : Way) (x : Option Slot) :
    (s.putSlot p w x).exporter = s.exporter := rfl
@[simp] theorem State.putSlot_standby (s : State) (p : SetIx) (w : Way) (x : Option Slot) :
    (s.putSlot p w x).standby = s.standby := rfl
@[simp] theorem State.putSlot_pending (s : State) (p : SetIx) (w : Way) (x : Option Slot) :
    (s.putSlot p w x).pending = s.pending := rfl

/-! ### touch -/

@[simp] theorem State.touch_hold (s : State) (p : SetIx) (w : Way) : (s.touch p w).hold = s.hold := rfl
@[simp] theorem State.touch_straps (s : State) (p : SetIx) (w : Way) : (s.touch p w).straps = s.straps := rfl
@[simp] theorem State.touch_now (s : State) (p : SetIx) (w : Way) : (s.touch p w).now = s.now := rfl
@[simp] theorem State.touch_freshAt (s : State) (p : SetIx) (w : Way) :
    (s.touch p w).freshAt = s.freshAt := rfl
@[simp] theorem State.touch_meter (s : State) (p : SetIx) (w : Way) : (s.touch p w).meter = s.meter := rfl
@[simp] theorem State.touch_readings (s : State) (p : SetIx) (w : Way) :
    (s.touch p w).readings = s.readings := rfl
@[simp] theorem State.touch_points (s : State) (p : SetIx) (w : Way) :
    (s.touch p w).points = s.points.set p ((s.points[p]).touch w) := rfl
@[simp] theorem State.touch_sched (s : State) (p : SetIx) (w : Way) : (s.touch p w).sched = s.sched := rfl
@[simp] theorem State.touch_control (s : State) (p : SetIx) (w : Way) :
    (s.touch p w).control = s.control := rfl
@[simp] theorem State.touch_engines (s : State) (p : SetIx) (w : Way) :
    (s.touch p w).engines = s.engines := rfl
@[simp] theorem State.touch_link (s : State) (p : SetIx) (w : Way) : (s.touch p w).link = s.link := rfl
@[simp] theorem State.touch_console (s : State) (p : SetIx) (w : Way) :
    (s.touch p w).console = s.console := rfl
@[simp] theorem State.touch_reports (s : State) (p : SetIx) (w : Way) :
    (s.touch p w).reports = s.reports := rfl
@[simp] theorem State.touch_exporter (s : State) (p : SetIx) (w : Way) :
    (s.touch p w).exporter = s.exporter := rfl
@[simp] theorem State.touch_standby (s : State) (p : SetIx) (w : Way) :
    (s.touch p w).standby = s.standby := rfl
@[simp] theorem State.touch_pending (s : State) (p : SetIx) (w : Way) :
    (s.touch p w).pending = s.pending := rfl

/-! ### putEngine -/

@[simp] theorem State.putEngine_hold (s : State) (st : Stage) (e : Engine) :
    (s.putEngine st e).hold = s.hold := rfl
@[simp] theorem State.putEngine_straps (s : State) (st : Stage) (e : Engine) :
    (s.putEngine st e).straps = s.straps := rfl
@[simp] theorem State.putEngine_now (s : State) (st : Stage) (e : Engine) :
    (s.putEngine st e).now = s.now := rfl
@[simp] theorem State.putEngine_freshAt (s : State) (st : Stage) (e : Engine) :
    (s.putEngine st e).freshAt = s.freshAt := rfl
@[simp] theorem State.putEngine_meter (s : State) (st : Stage) (e : Engine) :
    (s.putEngine st e).meter = s.meter := rfl
@[simp] theorem State.putEngine_readings (s : State) (st : Stage) (e : Engine) :
    (s.putEngine st e).readings = s.readings := rfl
@[simp] theorem State.putEngine_points (s : State) (st : Stage) (e : Engine) :
    (s.putEngine st e).points = s.points := rfl
@[simp] theorem State.putEngine_sched (s : State) (st : Stage) (e : Engine) :
    (s.putEngine st e).sched = s.sched := rfl
@[simp] theorem State.putEngine_control (s : State) (st : Stage) (e : Engine) :
    (s.putEngine st e).control = s.control := rfl
@[simp] theorem State.putEngine_engines (s : State) (st : Stage) (e : Engine) :
    (s.putEngine st e).engines = s.engines.set st e := rfl
@[simp] theorem State.putEngine_link (s : State) (st : Stage) (e : Engine) :
    (s.putEngine st e).link = s.link := rfl
@[simp] theorem State.putEngine_console (s : State) (st : Stage) (e : Engine) :
    (s.putEngine st e).console = s.console := rfl
@[simp] theorem State.putEngine_reports (s : State) (st : Stage) (e : Engine) :
    (s.putEngine st e).reports = s.reports := rfl
@[simp] theorem State.putEngine_exporter (s : State) (st : Stage) (e : Engine) :
    (s.putEngine st e).exporter = s.exporter := rfl
@[simp] theorem State.putEngine_standby (s : State) (st : Stage) (e : Engine) :
    (s.putEngine st e).standby = s.standby := rfl
@[simp] theorem State.putEngine_pending (s : State) (st : Stage) (e : Engine) :
    (s.putEngine st e).pending = s.pending := rfl

/-! ### reach -/

@[simp] theorem State.reach_hold (s : State) (t : Nat) : (s.reach t).hold = s.hold := rfl
@[simp] theorem State.reach_straps (s : State) (t : Nat) : (s.reach t).straps = s.straps := rfl
@[simp] theorem State.reach_now (s : State) (t : Nat) : (s.reach t).now = max s.now t := rfl
@[simp] theorem State.reach_freshAt (s : State) (t : Nat) : (s.reach t).freshAt = s.freshAt := rfl
@[simp] theorem State.reach_meter (s : State) (t : Nat) : (s.reach t).meter = s.meter := rfl
@[simp] theorem State.reach_readings (s : State) (t : Nat) : (s.reach t).readings = s.readings := rfl
@[simp] theorem State.reach_points (s : State) (t : Nat) : (s.reach t).points = s.points := rfl
@[simp] theorem State.reach_sched (s : State) (t : Nat) : (s.reach t).sched = s.sched := rfl
@[simp] theorem State.reach_control (s : State) (t : Nat) : (s.reach t).control = s.control := rfl
@[simp] theorem State.reach_engines (s : State) (t : Nat) : (s.reach t).engines = s.engines := rfl
@[simp] theorem State.reach_link (s : State) (t : Nat) : (s.reach t).link = s.link := rfl
@[simp] theorem State.reach_console (s : State) (t : Nat) : (s.reach t).console = s.console := rfl
@[simp] theorem State.reach_reports (s : State) (t : Nat) : (s.reach t).reports = s.reports := rfl
@[simp] theorem State.reach_exporter (s : State) (t : Nat) : (s.reach t).exporter = s.exporter := rfl
@[simp] theorem State.reach_standby (s : State) (t : Nat) : (s.reach t).standby = s.standby := rfl
@[simp] theorem State.reach_pending (s : State) (t : Nat) : (s.reach t).pending = s.pending := rfl

/-! ### offer -/

@[simp] theorem State.offer_hold (s : State) (n : Notice) : (s.offer n).hold = s.hold := rfl
@[simp] theorem State.offer_straps (s : State) (n : Notice) : (s.offer n).straps = s.straps := rfl
@[simp] theorem State.offer_now (s : State) (n : Notice) : (s.offer n).now = s.now := rfl
@[simp] theorem State.offer_freshAt (s : State) (n : Notice) : (s.offer n).freshAt = s.freshAt := rfl
@[simp] theorem State.offer_meter (s : State) (n : Notice) : (s.offer n).meter = s.meter := rfl
@[simp] theorem State.offer_readings (s : State) (n : Notice) : (s.offer n).readings = s.readings := rfl
@[simp] theorem State.offer_points (s : State) (n : Notice) : (s.offer n).points = s.points := rfl
@[simp] theorem State.offer_sched (s : State) (n : Notice) : (s.offer n).sched = s.sched := rfl
@[simp] theorem State.offer_control (s : State) (n : Notice) : (s.offer n).control = s.control := rfl
@[simp] theorem State.offer_engines (s : State) (n : Notice) : (s.offer n).engines = s.engines := rfl
@[simp] theorem State.offer_link (s : State) (n : Notice) : (s.offer n).link = s.link := rfl
@[simp] theorem State.offer_console (s : State) (n : Notice) : (s.offer n).console = s.console := rfl
@[simp] theorem State.offer_reports (s : State) (n : Notice) : (s.offer n).reports = s.reports.offer n := rfl
@[simp] theorem State.offer_exporter (s : State) (n : Notice) : (s.offer n).exporter = s.exporter := rfl
@[simp] theorem State.offer_standby (s : State) (n : Notice) : (s.offer n).standby = s.standby := rfl
@[simp] theorem State.offer_pending (s : State) (n : Notice) : (s.offer n).pending = s.pending := rfl

/-! ### offers -/

@[simp] theorem State.offers_hold (s : State) (ns : List Notice) : (s.offers ns).hold = s.hold := rfl
@[simp] theorem State.offers_straps (s : State) (ns : List Notice) : (s.offers ns).straps = s.straps := rfl
@[simp] theorem State.offers_now (s : State) (ns : List Notice) : (s.offers ns).now = s.now := rfl
@[simp] theorem State.offers_freshAt (s : State) (ns : List Notice) : (s.offers ns).freshAt = s.freshAt := rfl
@[simp] theorem State.offers_meter (s : State) (ns : List Notice) : (s.offers ns).meter = s.meter := rfl
@[simp] theorem State.offers_readings (s : State) (ns : List Notice) :
    (s.offers ns).readings = s.readings := rfl
@[simp] theorem State.offers_points (s : State) (ns : List Notice) : (s.offers ns).points = s.points := rfl
@[simp] theorem State.offers_sched (s : State) (ns : List Notice) : (s.offers ns).sched = s.sched := rfl
@[simp] theorem State.offers_control (s : State) (ns : List Notice) : (s.offers ns).control = s.control := rfl
@[simp] theorem State.offers_engines (s : State) (ns : List Notice) : (s.offers ns).engines = s.engines := rfl
@[simp] theorem State.offers_link (s : State) (ns : List Notice) : (s.offers ns).link = s.link := rfl
@[simp] theorem State.offers_console (s : State) (ns : List Notice) : (s.offers ns).console = s.console := rfl
@[simp] theorem State.offers_reports (s : State) (ns : List Notice) :
    (s.offers ns).reports = ns.foldl Reports.offer s.reports := rfl
@[simp] theorem State.offers_exporter (s : State) (ns : List Notice) :
    (s.offers ns).exporter = s.exporter := rfl
@[simp] theorem State.offers_standby (s : State) (ns : List Notice) : (s.offers ns).standby = s.standby := rfl
@[simp] theorem State.offers_pending (s : State) (ns : List Notice) : (s.offers ns).pending = s.pending := rfl

/-! ### count -/

@[simp] theorem State.count_hold (s : State) (c : CounterId) : (s.count c).hold = s.hold := rfl
@[simp] theorem State.count_straps (s : State) (c : CounterId) : (s.count c).straps = s.straps := rfl
@[simp] theorem State.count_now (s : State) (c : CounterId) : (s.count c).now = s.now := rfl
@[simp] theorem State.count_freshAt (s : State) (c : CounterId) : (s.count c).freshAt = s.freshAt := rfl
@[simp] theorem State.count_meter (s : State) (c : CounterId) : (s.count c).meter = s.meter := rfl
@[simp] theorem State.count_readings (s : State) (c : CounterId) : (s.count c).readings = s.readings := rfl
@[simp] theorem State.count_points (s : State) (c : CounterId) : (s.count c).points = s.points := rfl
@[simp] theorem State.count_sched (s : State) (c : CounterId) : (s.count c).sched = s.sched := rfl
@[simp] theorem State.count_control (s : State) (c : CounterId) : (s.count c).control = s.control := rfl
@[simp] theorem State.count_engines (s : State) (c : CounterId) : (s.count c).engines = s.engines := rfl
@[simp] theorem State.count_link (s : State) (c : CounterId) : (s.count c).link = s.link := rfl
@[simp] theorem State.count_console (s : State) (c : CounterId) : (s.count c).console = s.console := rfl
@[simp] theorem State.count_reports (s : State) (c : CounterId) :
    (s.count c).reports = s.reports.count c := rfl
@[simp] theorem State.count_exporter (s : State) (c : CounterId) : (s.count c).exporter = s.exporter := rfl
@[simp] theorem State.count_standby (s : State) (c : CounterId) : (s.count c).standby = s.standby := rfl
@[simp] theorem State.count_pending (s : State) (c : CounterId) : (s.count c).pending = s.pending := rfl

/-! ### setQuiet -/

@[simp] theorem State.setQuiet_hold (s : State) (st : Stage) (q : Bool) :
    (s.setQuiet st q).hold = s.hold := rfl
@[simp] theorem State.setQuiet_straps (s : State) (st : Stage) (q : Bool) :
    (s.setQuiet st q).straps = s.straps := rfl
@[simp] theorem State.setQuiet_now (s : State) (st : Stage) (q : Bool) : (s.setQuiet st q).now = s.now := rfl
@[simp] theorem State.setQuiet_freshAt (s : State) (st : Stage) (q : Bool) :
    (s.setQuiet st q).freshAt = s.freshAt := rfl
@[simp] theorem State.setQuiet_meter (s : State) (st : Stage) (q : Bool) :
    (s.setQuiet st q).meter = s.meter := rfl
@[simp] theorem State.setQuiet_readings (s : State) (st : Stage) (q : Bool) :
    (s.setQuiet st q).readings = s.readings := rfl
@[simp] theorem State.setQuiet_points (s : State) (st : Stage) (q : Bool) :
    (s.setQuiet st q).points = s.points := rfl
@[simp] theorem State.setQuiet_sched (s : State) (st : Stage) (q : Bool) :
    (s.setQuiet st q).sched = s.sched := rfl
@[simp] theorem State.setQuiet_control (s : State) (st : Stage) (q : Bool) :
    (s.setQuiet st q).control = s.control := rfl
@[simp] theorem State.setQuiet_engines (s : State) (st : Stage) (q : Bool) :
    (s.setQuiet st q).engines = s.engines := rfl
@[simp] theorem State.setQuiet_link (s : State) (st : Stage) (q : Bool) :
    (s.setQuiet st q).link = s.link := rfl
@[simp] theorem State.setQuiet_console (s : State) (st : Stage) (q : Bool) :
    (s.setQuiet st q).console = s.console := rfl
@[simp] theorem State.setQuiet_reports (s : State) (st : Stage) (q : Bool) :
    (s.setQuiet st q).reports = s.reports := rfl
@[simp] theorem State.setQuiet_exporter (s : State) (st : Stage) (q : Bool) :
    (s.setQuiet st q).exporter = s.exporter := rfl
@[simp] theorem State.setQuiet_standby (s : State) (st : Stage) (q : Bool) :
    (s.setQuiet st q).standby = { s.standby with quiet := s.standby.quiet.set st q } := rfl
@[simp] theorem State.setQuiet_pending (s : State) (st : Stage) (q : Bool) :
    (s.setQuiet st q).pending = s.pending := rfl

/-! ### startDarkTimer -/

@[simp] theorem State.startDarkTimer_hold (s : State) : (s.startDarkTimer).hold = s.hold := rfl
@[simp] theorem State.startDarkTimer_straps (s : State) : (s.startDarkTimer).straps = s.straps := rfl
@[simp] theorem State.startDarkTimer_now (s : State) : (s.startDarkTimer).now = s.now := rfl
@[simp] theorem State.startDarkTimer_freshAt (s : State) : (s.startDarkTimer).freshAt = s.freshAt := rfl
@[simp] theorem State.startDarkTimer_meter (s : State) : (s.startDarkTimer).meter = s.meter := rfl
@[simp] theorem State.startDarkTimer_readings (s : State) : (s.startDarkTimer).readings = s.readings := rfl
@[simp] theorem State.startDarkTimer_points (s : State) : (s.startDarkTimer).points = s.points := rfl
@[simp] theorem State.startDarkTimer_sched (s : State) : (s.startDarkTimer).sched = s.sched := rfl
@[simp] theorem State.startDarkTimer_control (s : State) : (s.startDarkTimer).control = s.control := rfl
@[simp] theorem State.startDarkTimer_engines (s : State) : (s.startDarkTimer).engines = s.engines := rfl
@[simp] theorem State.startDarkTimer_link (s : State) : (s.startDarkTimer).link = s.link := rfl
@[simp] theorem State.startDarkTimer_console (s : State) : (s.startDarkTimer).console = s.console := rfl
@[simp] theorem State.startDarkTimer_reports (s : State) : (s.startDarkTimer).reports = s.reports := rfl
@[simp] theorem State.startDarkTimer_exporter (s : State) : (s.startDarkTimer).exporter = s.exporter := rfl
@[simp] theorem State.startDarkTimer_standby (s : State) :
    (s.startDarkTimer).standby =
      { s.standby with timer := some (s.now + s.standby.darkTime * Config.second) } := rfl
@[simp] theorem State.startDarkTimer_pending (s : State) : (s.startDarkTimer).pending = s.pending := rfl

/-! ### stopDarkTimer -/

@[simp] theorem State.stopDarkTimer_hold (s : State) : (s.stopDarkTimer).hold = s.hold := rfl
@[simp] theorem State.stopDarkTimer_straps (s : State) : (s.stopDarkTimer).straps = s.straps := rfl
@[simp] theorem State.stopDarkTimer_now (s : State) : (s.stopDarkTimer).now = s.now := rfl
@[simp] theorem State.stopDarkTimer_freshAt (s : State) : (s.stopDarkTimer).freshAt = s.freshAt := rfl
@[simp] theorem State.stopDarkTimer_meter (s : State) : (s.stopDarkTimer).meter = s.meter := rfl
@[simp] theorem State.stopDarkTimer_readings (s : State) : (s.stopDarkTimer).readings = s.readings := rfl
@[simp] theorem State.stopDarkTimer_points (s : State) : (s.stopDarkTimer).points = s.points := rfl
@[simp] theorem State.stopDarkTimer_sched (s : State) : (s.stopDarkTimer).sched = s.sched := rfl
@[simp] theorem State.stopDarkTimer_control (s : State) : (s.stopDarkTimer).control = s.control := rfl
@[simp] theorem State.stopDarkTimer_engines (s : State) : (s.stopDarkTimer).engines = s.engines := rfl
@[simp] theorem State.stopDarkTimer_link (s : State) : (s.stopDarkTimer).link = s.link := rfl
@[simp] theorem State.stopDarkTimer_console (s : State) : (s.stopDarkTimer).console = s.console := rfl
@[simp] theorem State.stopDarkTimer_reports (s : State) : (s.stopDarkTimer).reports = s.reports := rfl
@[simp] theorem State.stopDarkTimer_exporter (s : State) : (s.stopDarkTimer).exporter = s.exporter := rfl
@[simp] theorem State.stopDarkTimer_standby (s : State) :
    (s.stopDarkTimer).standby = { s.standby with timer := none } := rfl
@[simp] theorem State.stopDarkTimer_pending (s : State) : (s.stopDarkTimer).pending = s.pending := rfl

/-! ### forgetMeter -/

@[simp] theorem State.forgetMeter_hold (s : State) (st : Stage) : (s.forgetMeter st).hold = s.hold := rfl
@[simp] theorem State.forgetMeter_straps (s : State) (st : Stage) :
    (s.forgetMeter st).straps = s.straps := rfl
@[simp] theorem State.forgetMeter_now (s : State) (st : Stage) : (s.forgetMeter st).now = s.now := rfl
@[simp] theorem State.forgetMeter_freshAt (s : State) (st : Stage) :
    (s.forgetMeter st).freshAt = s.freshAt := rfl
@[simp] theorem State.forgetMeter_meter (s : State) (st : Stage) : (s.forgetMeter st).meter = s.meter := rfl
@[simp] theorem State.forgetMeter_readings (s : State) (st : Stage) :
    (s.forgetMeter st).readings = s.readings := rfl
@[simp] theorem State.forgetMeter_points (s : State) (st : Stage) :
    (s.forgetMeter st).points = s.points := rfl
@[simp] theorem State.forgetMeter_sched (s : State) (st : Stage) : (s.forgetMeter st).sched = s.sched := rfl
@[simp] theorem State.forgetMeter_control (s : State) (st : Stage) :
    (s.forgetMeter st).control = s.control := rfl
@[simp] theorem State.forgetMeter_engines (s : State) (st : Stage) :
    (s.forgetMeter st).engines = s.engines := rfl
@[simp] theorem State.forgetMeter_link (s : State) (st : Stage) : (s.forgetMeter st).link = s.link := rfl
@[simp] theorem State.forgetMeter_console (s : State) (st : Stage) :
    (s.forgetMeter st).console = s.console := rfl
@[simp] theorem State.forgetMeter_reports (s : State) (st : Stage) :
    (s.forgetMeter st).reports = s.reports := rfl
@[simp] theorem State.forgetMeter_exporter (s : State) (st : Stage) :
    (s.forgetMeter st).exporter = s.exporter := rfl
@[simp] theorem State.forgetMeter_standby (s : State) (st : Stage) :
    (s.forgetMeter st).standby =
      { s.standby with lastL1 := s.standby.lastL1.set st none, quiet := s.standby.quiet.set st true } := rfl
@[simp] theorem State.forgetMeter_pending (s : State) (st : Stage) :
    (s.forgetMeter st).pending = s.pending := rfl

/-! ### thawSet -/

@[simp] theorem State.thawSet_hold (s : State) (p : SetIx) : (s.thawSet p).hold = s.hold := rfl
@[simp] theorem State.thawSet_straps (s : State) (p : SetIx) : (s.thawSet p).straps = s.straps := rfl
@[simp] theorem State.thawSet_now (s : State) (p : SetIx) : (s.thawSet p).now = s.now := rfl
@[simp] theorem State.thawSet_freshAt (s : State) (p : SetIx) : (s.thawSet p).freshAt = s.freshAt := rfl
@[simp] theorem State.thawSet_meter (s : State) (p : SetIx) : (s.thawSet p).meter = s.meter := rfl
@[simp] theorem State.thawSet_readings (s : State) (p : SetIx) : (s.thawSet p).readings = s.readings := rfl
@[simp] theorem State.thawSet_points (s : State) (p : SetIx) : (s.thawSet p).points = s.points := rfl
@[simp] theorem State.thawSet_sched (s : State) (p : SetIx) : (s.thawSet p).sched = s.sched := rfl
@[simp] theorem State.thawSet_control (s : State) (p : SetIx) :
    (s.thawSet p).control = s.control.setFreeze p .active := rfl
@[simp] theorem State.thawSet_engines (s : State) (p : SetIx) : (s.thawSet p).engines = s.engines := rfl
@[simp] theorem State.thawSet_link (s : State) (p : SetIx) : (s.thawSet p).link = s.link := rfl
@[simp] theorem State.thawSet_console (s : State) (p : SetIx) : (s.thawSet p).console = s.console := rfl
@[simp] theorem State.thawSet_reports (s : State) (p : SetIx) : (s.thawSet p).reports = s.reports := rfl
@[simp] theorem State.thawSet_exporter (s : State) (p : SetIx) : (s.thawSet p).exporter = s.exporter := rfl
@[simp] theorem State.thawSet_standby (s : State) (p : SetIx) : (s.thawSet p).standby = s.standby := rfl
@[simp] theorem State.thawSet_pending (s : State) (p : SetIx) : (s.thawSet p).pending = s.pending := rfl

/-! ### freeSlot -/

@[simp] theorem State.freeSlot_hold (s : State) (p : SetIx) (w : Way) : (s.freeSlot p w).hold = s.hold := rfl
@[simp] theorem State.freeSlot_straps (s : State) (p : SetIx) (w : Way) :
    (s.freeSlot p w).straps = s.straps := rfl
@[simp] theorem State.freeSlot_now (s : State) (p : SetIx) (w : Way) : (s.freeSlot p w).now = s.now := rfl
@[simp] theorem State.freeSlot_freshAt (s : State) (p : SetIx) (w : Way) :
    (s.freeSlot p w).freshAt = s.freshAt := rfl
@[simp] theorem State.freeSlot_meter (s : State) (p : SetIx) (w : Way) :
    (s.freeSlot p w).meter = s.meter := rfl
@[simp] theorem State.freeSlot_readings (s : State) (p : SetIx) (w : Way) :
    (s.freeSlot p w).readings = s.readings := rfl
@[simp] theorem State.freeSlot_points (s : State) (p : SetIx) (w : Way) :
    (s.freeSlot p w).points = s.points.set p ((s.points[p]).put w none) := rfl
@[simp] theorem State.freeSlot_sched (s : State) (p : SetIx) (w : Way) :
    (s.freeSlot p w).sched = s.sched := rfl
@[simp] theorem State.freeSlot_control (s : State) (p : SetIx) (w : Way) :
    (s.freeSlot p w).control = s.control := rfl
@[simp] theorem State.freeSlot_engines (s : State) (p : SetIx) (w : Way) :
    (s.freeSlot p w).engines = s.engines := rfl
@[simp] theorem State.freeSlot_link (s : State) (p : SetIx) (w : Way) : (s.freeSlot p w).link = s.link := rfl
@[simp] theorem State.freeSlot_console (s : State) (p : SetIx) (w : Way) :
    (s.freeSlot p w).console = s.console := rfl
@[simp] theorem State.freeSlot_reports (s : State) (p : SetIx) (w : Way) :
    (s.freeSlot p w).reports = s.reports := rfl
@[simp] theorem State.freeSlot_exporter (s : State) (p : SetIx) (w : Way) :
    (s.freeSlot p w).exporter = s.exporter.breakBinding p w := rfl
@[simp] theorem State.freeSlot_standby (s : State) (p : SetIx) (w : Way) :
    (s.freeSlot p w).standby = s.standby := rfl
@[simp] theorem State.freeSlot_pending (s : State) (p : SetIx) (w : Way) :
    (s.freeSlot p w).pending = s.pending := rfl

/-! ### huntMeter -/

@[simp] theorem State.huntMeter_hold (s : State) (i : Input) : (s.huntMeter i).hold = s.hold := rfl
@[simp] theorem State.huntMeter_straps (s : State) (i : Input) : (s.huntMeter i).straps = s.straps := rfl
@[simp] theorem State.huntMeter_now (s : State) (i : Input) : (s.huntMeter i).now = s.now := rfl
@[simp] theorem State.huntMeter_freshAt (s : State) (i : Input) : (s.huntMeter i).freshAt = s.freshAt := rfl
@[simp] theorem State.huntMeter_meter (s : State) (i : Input) :
    (s.huntMeter i).meter = { s.meter with rx := s.meter.rx.put i .hunt } := rfl
@[simp] theorem State.huntMeter_readings (s : State) (i : Input) :
    (s.huntMeter i).readings = s.readings := rfl
@[simp] theorem State.huntMeter_points (s : State) (i : Input) : (s.huntMeter i).points = s.points := rfl
@[simp] theorem State.huntMeter_sched (s : State) (i : Input) : (s.huntMeter i).sched = s.sched := rfl
@[simp] theorem State.huntMeter_control (s : State) (i : Input) : (s.huntMeter i).control = s.control := rfl
@[simp] theorem State.huntMeter_engines (s : State) (i : Input) : (s.huntMeter i).engines = s.engines := rfl
@[simp] theorem State.huntMeter_link (s : State) (i : Input) : (s.huntMeter i).link = s.link := rfl
@[simp] theorem State.huntMeter_console (s : State) (i : Input) : (s.huntMeter i).console = s.console := rfl
@[simp] theorem State.huntMeter_reports (s : State) (i : Input) : (s.huntMeter i).reports = s.reports := rfl
@[simp] theorem State.huntMeter_exporter (s : State) (i : Input) :
    (s.huntMeter i).exporter = s.exporter := rfl
@[simp] theorem State.huntMeter_standby (s : State) (i : Input) : (s.huntMeter i).standby = s.standby := rfl
@[simp] theorem State.huntMeter_pending (s : State) (i : Input) : (s.huntMeter i).pending = s.pending := rfl

/-! ### restartAlive -/

@[simp] theorem State.restartAlive_hold (s : State) (i : Input) : (s.restartAlive i).hold = s.hold := rfl
@[simp] theorem State.restartAlive_straps (s : State) (i : Input) :
    (s.restartAlive i).straps = s.straps := rfl
@[simp] theorem State.restartAlive_now (s : State) (i : Input) : (s.restartAlive i).now = s.now := rfl
@[simp] theorem State.restartAlive_freshAt (s : State) (i : Input) :
    (s.restartAlive i).freshAt = s.freshAt := rfl
@[simp] theorem State.restartAlive_meter (s : State) (i : Input) :
    (s.restartAlive i).meter =
      { s.meter with alive := s.meter.alive.put i (some (s.now + Config.aliveTime)) } := rfl
@[simp] theorem State.restartAlive_readings (s : State) (i : Input) :
    (s.restartAlive i).readings = s.readings := rfl
@[simp] theorem State.restartAlive_points (s : State) (i : Input) :
    (s.restartAlive i).points = s.points := rfl
@[simp] theorem State.restartAlive_sched (s : State) (i : Input) : (s.restartAlive i).sched = s.sched := rfl
@[simp] theorem State.restartAlive_control (s : State) (i : Input) :
    (s.restartAlive i).control = s.control := rfl
@[simp] theorem State.restartAlive_engines (s : State) (i : Input) :
    (s.restartAlive i).engines = s.engines := rfl
@[simp] theorem State.restartAlive_link (s : State) (i : Input) : (s.restartAlive i).link = s.link := rfl
@[simp] theorem State.restartAlive_console (s : State) (i : Input) :
    (s.restartAlive i).console = s.console := rfl
@[simp] theorem State.restartAlive_reports (s : State) (i : Input) :
    (s.restartAlive i).reports = s.reports := rfl
@[simp] theorem State.restartAlive_exporter (s : State) (i : Input) :
    (s.restartAlive i).exporter = s.exporter := rfl
@[simp] theorem State.restartAlive_standby (s : State) (i : Input) :
    (s.restartAlive i).standby = s.standby := rfl
@[simp] theorem State.restartAlive_pending (s : State) (i : Input) :
    (s.restartAlive i).pending = s.pending := rfl

/-! ### collectMeter -/

@[simp] theorem State.collectMeter_hold (s : State) (i : Input) (bs : List Byte) :
    (s.collectMeter i bs).hold = s.hold := rfl
@[simp] theorem State.collectMeter_straps (s : State) (i : Input) (bs : List Byte) :
    (s.collectMeter i bs).straps = s.straps := rfl
@[simp] theorem State.collectMeter_now (s : State) (i : Input) (bs : List Byte) :
    (s.collectMeter i bs).now = s.now := rfl
@[simp] theorem State.collectMeter_freshAt (s : State) (i : Input) (bs : List Byte) :
    (s.collectMeter i bs).freshAt = s.freshAt := rfl
@[simp] theorem State.collectMeter_meter (s : State) (i : Input) (bs : List Byte) :
    (s.collectMeter i bs).meter =
      { s.meter with rx := s.meter.rx.put i (.collecting bs (s.now + Config.meterGap)) } := rfl
@[simp] theorem State.collectMeter_readings (s : State) (i : Input) (bs : List Byte) :
    (s.collectMeter i bs).readings = s.readings := rfl
@[simp] theorem State.collectMeter_points (s : State) (i : Input) (bs : List Byte) :
    (s.collectMeter i bs).points = s.points := rfl
@[simp] theorem State.collectMeter_sched (s : State) (i : Input) (bs : List Byte) :
    (s.collectMeter i bs).sched = s.sched := rfl
@[simp] theorem State.collectMeter_control (s : State) (i : Input) (bs : List Byte) :
    (s.collectMeter i bs).control = s.control := rfl
@[simp] theorem State.collectMeter_engines (s : State) (i : Input) (bs : List Byte) :
    (s.collectMeter i bs).engines = s.engines := rfl
@[simp] theorem State.collectMeter_link (s : State) (i : Input) (bs : List Byte) :
    (s.collectMeter i bs).link = s.link := rfl
@[simp] theorem State.collectMeter_console (s : State) (i : Input) (bs : List Byte) :
    (s.collectMeter i bs).console = s.console := rfl
@[simp] theorem State.collectMeter_reports (s : State) (i : Input) (bs : List Byte) :
    (s.collectMeter i bs).reports = s.reports := rfl
@[simp] theorem State.collectMeter_exporter (s : State) (i : Input) (bs : List Byte) :
    (s.collectMeter i bs).exporter = s.exporter := rfl
@[simp] theorem State.collectMeter_standby (s : State) (i : Input) (bs : List Byte) :
    (s.collectMeter i bs).standby = s.standby := rfl
@[simp] theorem State.collectMeter_pending (s : State) (i : Input) (bs : List Byte) :
    (s.collectMeter i bs).pending = s.pending := rfl

/-! ### switchInput -/

@[simp] theorem State.switchInput_hold (s : State) (i : Input) (c : SwitchCause) :
    (s.switchInput i c).hold = s.hold := rfl
@[simp] theorem State.switchInput_straps (s : State) (i : Input) (c : SwitchCause) :
    (s.switchInput i c).straps = s.straps := rfl
@[simp] theorem State.switchInput_now (s : State) (i : Input) (c : SwitchCause) :
    (s.switchInput i c).now = s.now := rfl
@[simp] theorem State.switchInput_freshAt (s : State) (i : Input) (c : SwitchCause) :
    (s.switchInput i c).freshAt = s.freshAt := rfl
@[simp] theorem State.switchInput_meter (s : State) (i : Input) (c : SwitchCause) :
    (s.switchInput i c).meter = { s.meter with active := i, returnAt := none } := rfl
@[simp] theorem State.switchInput_readings (s : State) (i : Input) (c : SwitchCause) :
    (s.switchInput i c).readings = s.readings := rfl
@[simp] theorem State.switchInput_points (s : State) (i : Input) (c : SwitchCause) :
    (s.switchInput i c).points = s.points := rfl
@[simp] theorem State.switchInput_sched (s : State) (i : Input) (c : SwitchCause) :
    (s.switchInput i c).sched = s.sched := rfl
@[simp] theorem State.switchInput_control (s : State) (i : Input) (c : SwitchCause) :
    (s.switchInput i c).control = s.control := rfl
@[simp] theorem State.switchInput_engines (s : State) (i : Input) (c : SwitchCause) :
    (s.switchInput i c).engines = s.engines := rfl
@[simp] theorem State.switchInput_link (s : State) (i : Input) (c : SwitchCause) :
    (s.switchInput i c).link = s.link := rfl
@[simp] theorem State.switchInput_console (s : State) (i : Input) (c : SwitchCause) :
    (s.switchInput i c).console = s.console := rfl
@[simp] theorem State.switchInput_reports (s : State) (i : Input) (c : SwitchCause) :
    (s.switchInput i c).reports =
      s.reports.offer (.meterInputSwitch s.meter.active i c (s.meter.isAlive .a) (s.meter.isAlive .b)) := rfl
@[simp] theorem State.switchInput_exporter (s : State) (i : Input) (c : SwitchCause) :
    (s.switchInput i c).exporter = s.exporter := rfl
@[simp] theorem State.switchInput_standby (s : State) (i : Input) (c : SwitchCause) :
    (s.switchInput i c).standby = s.standby := rfl
@[simp] theorem State.switchInput_pending (s : State) (i : Input) (c : SwitchCause) :
    (s.switchInput i c).pending = s.pending := rfl

/-! ### huntConsole -/

@[simp] theorem State.huntConsole_hold (s : State) : (s.huntConsole).hold = s.hold := rfl
@[simp] theorem State.huntConsole_straps (s : State) : (s.huntConsole).straps = s.straps := rfl
@[simp] theorem State.huntConsole_now (s : State) : (s.huntConsole).now = s.now := rfl
@[simp] theorem State.huntConsole_freshAt (s : State) : (s.huntConsole).freshAt = s.freshAt := rfl
@[simp] theorem State.huntConsole_meter (s : State) : (s.huntConsole).meter = s.meter := rfl
@[simp] theorem State.huntConsole_readings (s : State) : (s.huntConsole).readings = s.readings := rfl
@[simp] theorem State.huntConsole_points (s : State) : (s.huntConsole).points = s.points := rfl
@[simp] theorem State.huntConsole_sched (s : State) : (s.huntConsole).sched = s.sched := rfl
@[simp] theorem State.huntConsole_control (s : State) : (s.huntConsole).control = s.control := rfl
@[simp] theorem State.huntConsole_engines (s : State) : (s.huntConsole).engines = s.engines := rfl
@[simp] theorem State.huntConsole_link (s : State) : (s.huntConsole).link = s.link := rfl
@[simp] theorem State.huntConsole_console (s : State) :
    (s.huntConsole).console = { s.console with rx := .hunt } := rfl
@[simp] theorem State.huntConsole_reports (s : State) : (s.huntConsole).reports = s.reports := rfl
@[simp] theorem State.huntConsole_exporter (s : State) : (s.huntConsole).exporter = s.exporter := rfl
@[simp] theorem State.huntConsole_standby (s : State) : (s.huntConsole).standby = s.standby := rfl
@[simp] theorem State.huntConsole_pending (s : State) : (s.huntConsole).pending = s.pending := rfl

/-! ### collectConsole -/

@[simp] theorem State.collectConsole_hold (s : State) (bs : List Byte) :
    (s.collectConsole bs).hold = s.hold := rfl
@[simp] theorem State.collectConsole_straps (s : State) (bs : List Byte) :
    (s.collectConsole bs).straps = s.straps := rfl
@[simp] theorem State.collectConsole_now (s : State) (bs : List Byte) :
    (s.collectConsole bs).now = s.now := rfl
@[simp] theorem State.collectConsole_freshAt (s : State) (bs : List Byte) :
    (s.collectConsole bs).freshAt = s.freshAt := rfl
@[simp] theorem State.collectConsole_meter (s : State) (bs : List Byte) :
    (s.collectConsole bs).meter = s.meter := rfl
@[simp] theorem State.collectConsole_readings (s : State) (bs : List Byte) :
    (s.collectConsole bs).readings = s.readings := rfl
@[simp] theorem State.collectConsole_points (s : State) (bs : List Byte) :
    (s.collectConsole bs).points = s.points := rfl
@[simp] theorem State.collectConsole_sched (s : State) (bs : List Byte) :
    (s.collectConsole bs).sched = s.sched := rfl
@[simp] theorem State.collectConsole_control (s : State) (bs : List Byte) :
    (s.collectConsole bs).control = s.control := rfl
@[simp] theorem State.collectConsole_engines (s : State) (bs : List Byte) :
    (s.collectConsole bs).engines = s.engines := rfl
@[simp] theorem State.collectConsole_link (s : State) (bs : List Byte) :
    (s.collectConsole bs).link = s.link := rfl
@[simp] theorem State.collectConsole_console (s : State) (bs : List Byte) :
    (s.collectConsole bs).console =
      { s.console with rx := .collecting bs (s.now + Config.consoleGap s.straps.rate) } := rfl
@[simp] theorem State.collectConsole_reports (s : State) (bs : List Byte) :
    (s.collectConsole bs).reports = s.reports := rfl
@[simp] theorem State.collectConsole_exporter (s : State) (bs : List Byte) :
    (s.collectConsole bs).exporter = s.exporter := rfl
@[simp] theorem State.collectConsole_standby (s : State) (bs : List Byte) :
    (s.collectConsole bs).standby = s.standby := rfl
@[simp] theorem State.collectConsole_pending (s : State) (bs : List Byte) :
    (s.collectConsole bs).pending = s.pending := rfl

/-! ### sendFrame -/

@[simp] theorem State.sendFrame_hold (s : State) (f : TxFrame) : (s.sendFrame f).hold = s.hold := rfl
@[simp] theorem State.sendFrame_straps (s : State) (f : TxFrame) : (s.sendFrame f).straps = s.straps := rfl
@[simp] theorem State.sendFrame_now (s : State) (f : TxFrame) : (s.sendFrame f).now = s.now := rfl
@[simp] theorem State.sendFrame_freshAt (s : State) (f : TxFrame) : (s.sendFrame f).freshAt = s.freshAt := rfl
@[simp] theorem State.sendFrame_meter (s : State) (f : TxFrame) : (s.sendFrame f).meter = s.meter := rfl
@[simp] theorem State.sendFrame_readings (s : State) (f : TxFrame) :
    (s.sendFrame f).readings = s.readings := rfl
@[simp] theorem State.sendFrame_points (s : State) (f : TxFrame) : (s.sendFrame f).points = s.points := rfl
@[simp] theorem State.sendFrame_sched (s : State) (f : TxFrame) : (s.sendFrame f).sched = s.sched := rfl
@[simp] theorem State.sendFrame_control (s : State) (f : TxFrame) : (s.sendFrame f).control = s.control := rfl
@[simp] theorem State.sendFrame_engines (s : State) (f : TxFrame) : (s.sendFrame f).engines = s.engines := rfl
@[simp] theorem State.sendFrame_link (s : State) (f : TxFrame) : (s.sendFrame f).link = s.link := rfl
@[simp] theorem State.sendFrame_console (s : State) (f : TxFrame) :
    (s.sendFrame f).console = { s.console with line := some f } := rfl
@[simp] theorem State.sendFrame_reports (s : State) (f : TxFrame) : (s.sendFrame f).reports = s.reports := rfl
@[simp] theorem State.sendFrame_exporter (s : State) (f : TxFrame) :
    (s.sendFrame f).exporter = s.exporter := rfl
@[simp] theorem State.sendFrame_standby (s : State) (f : TxFrame) : (s.sendFrame f).standby = s.standby := rfl
@[simp] theorem State.sendFrame_pending (s : State) (f : TxFrame) : (s.sendFrame f).pending = s.pending := rfl

/-! ### leaveDark -/

@[simp] theorem State.leaveDark_hold (s : State) (c : DarkCause) : (s.leaveDark c).hold = s.hold := rfl
@[simp] theorem State.leaveDark_straps (s : State) (c : DarkCause) : (s.leaveDark c).straps = s.straps := rfl
@[simp] theorem State.leaveDark_now (s : State) (c : DarkCause) : (s.leaveDark c).now = s.now := rfl
@[simp] theorem State.leaveDark_freshAt (s : State) (c : DarkCause) :
    (s.leaveDark c).freshAt = s.freshAt := rfl
@[simp] theorem State.leaveDark_meter (s : State) (c : DarkCause) : (s.leaveDark c).meter = s.meter := rfl
@[simp] theorem State.leaveDark_readings (s : State) (c : DarkCause) :
    (s.leaveDark c).readings = s.readings := rfl
@[simp] theorem State.leaveDark_points (s : State) (c : DarkCause) : (s.leaveDark c).points = s.points := rfl
@[simp] theorem State.leaveDark_sched (s : State) (c : DarkCause) : (s.leaveDark c).sched = s.sched := rfl
@[simp] theorem State.leaveDark_control (s : State) (c : DarkCause) :
    (s.leaveDark c).control = s.control := rfl
@[simp] theorem State.leaveDark_engines (s : State) (c : DarkCause) :
    (s.leaveDark c).engines = Vector.ofFn fun st : Stage => (s.engine st).brightenRefresh s.now := rfl
@[simp] theorem State.leaveDark_link (s : State) (c : DarkCause) : (s.leaveDark c).link = s.link := rfl
@[simp] theorem State.leaveDark_console (s : State) (c : DarkCause) :
    (s.leaveDark c).console = s.console := rfl
@[simp] theorem State.leaveDark_reports (s : State) (c : DarkCause) :
    (s.leaveDark c).reports = s.reports.offer (.darkLeave c) := rfl
@[simp] theorem State.leaveDark_exporter (s : State) (c : DarkCause) :
    (s.leaveDark c).exporter = s.exporter := rfl
@[simp] theorem State.leaveDark_standby (s : State) (c : DarkCause) :
    (s.leaveDark c).standby = { s.standby with dark := false } := rfl
@[simp] theorem State.leaveDark_pending (s : State) (c : DarkCause) :
    (s.leaveDark c).pending = s.pending := rfl

/-! ### Reading what was written -/

@[simp] theorem PerInput.get_put_self {α : Type} (x : PerInput α) (i : Input) (v : α) : (x.put i v).get i = v := by
  cases i <;> rfl

theorem PerInput.get_put_of_ne {α : Type} (x : PerInput α) {i j : Input} (v : α) (h : j ≠ i) :
    (x.put i v).get j = x.get j := by
  cases i <;> cases j <;> first | rfl | exact absurd rfl h

@[simp] theorem PerInput.put_put {α : Type} (x : PerInput α) (i : Input) (v v' : α) :
    (x.put i v).put i v' = x.put i v' := by
  cases i <;> rfl

@[simp] theorem PerInput.put_get {α : Type} (x : PerInput α) (i : Input) : x.put i (x.get i) = x := by
  cases i <;> rfl

@[simp] theorem otherInput_ne (i : Input) : otherInput i ≠ i := by cases i <;> decide

@[simp] theorem otherInput_otherInput (i : Input) : otherInput (otherInput i) = i := by cases i <;> rfl

@[simp] theorem Way.other_other (w : Way) : w.other.other = w := by cases w <;> rfl

@[simp] theorem Way.other_ne (w : Way) : w.other ≠ w := by cases w <;> decide

@[simp] theorem PointSet.get_put_self (ps : PointSet) (w : Way) (x : Option Slot) : (ps.put w x).get w = x := by
  cases w <;> rfl

theorem PointSet.get_put_of_ne (ps : PointSet) {w w' : Way} (x : Option Slot) (h : w' ≠ w) :
    (ps.put w x).get w' = ps.get w' := by
  cases w <;> cases w' <;> first | rfl | exact absurd rfl h

@[simp] theorem PointSet.get_put_other (ps : PointSet) (w : Way) (x : Option Slot) :
    (ps.put w x).get w.other = ps.get w.other := by
  cases w <;> rfl

@[simp] theorem PointSet.put_lru (ps : PointSet) (w : Way) (x : Option Slot) : (ps.put w x).lru = ps.lru := by
  cases w <;> rfl

@[simp] theorem PointSet.put_put (ps : PointSet) (w : Way) (x y : Option Slot) :
    (ps.put w x).put w y = ps.put w y := by
  cases w <;> rfl

@[simp] theorem PointSet.put_get (ps : PointSet) (w : Way) : ps.put w (ps.get w) = ps := by
  cases w <;> rfl

@[simp] theorem PointSet.get_touch (ps : PointSet) (w w' : Way) : (ps.touch w).get w' = ps.get w' := by
  cases w' <;> rfl

@[simp] theorem PointSet.touch_lru (ps : PointSet) (w : Way) : (ps.touch w).lru = w.other := rfl

@[simp] theorem PointSet.touch_way0 (ps : PointSet) (w : Way) : (ps.touch w).way0 = ps.way0 := rfl

@[simp] theorem PointSet.touch_way1 (ps : PointSet) (w : Way) : (ps.touch w).way1 = ps.way1 := rfl

theorem State.slotAt_eq_of_points {s t : State} (h : s.points = t.points) (p : SetIx) (w : Way) :
    s.slotAt p w = t.slotAt p w := by
  simp only [State.slotAt, h]

theorem State.points_putSlot_self (s : State) (p : SetIx) (w : Way) (x : Option Slot) :
    (s.putSlot p w x).points[p] = (s.points[p]).put w x := by
  simp [State.putSlot]

theorem State.points_putSlot_of_ne (s : State) {p q : SetIx} (w : Way) (x : Option Slot) (h : q ≠ p) :
    (s.putSlot p w x).points[q] = s.points[q] := by
  have h' : p.val ≠ q.val := fun e => h (Fin.ext e.symm)
  simp [State.putSlot, h']

@[simp] theorem State.slotAt_putSlot_self (s : State) (p : SetIx) (w : Way) (x : Option Slot) :
    (s.putSlot p w x).slotAt p w = x := by
  simp [State.slotAt, State.putSlot]

theorem State.slotAt_putSlot_of_ne (s : State) {p q : SetIx} {w v : Way} (x : Option Slot)
    (h : ¬(q = p ∧ v = w)) : (s.putSlot p w x).slotAt q v = s.slotAt q v := by
  by_cases hq : q = p
  · subst hq
    simpa [State.slotAt, State.putSlot] using
      PointSet.get_put_of_ne (s.points[q]) x (fun e => h ⟨rfl, e⟩)
  · simp only [State.slotAt, State.points_putSlot_of_ne s w x hq]

theorem State.slotAt_putSlot (s : State) (p q : SetIx) (w v : Way) (x : Option Slot) :
    (s.putSlot p w x).slotAt q v = if q = p ∧ v = w then x else s.slotAt q v := by
  split
  · next h => obtain ⟨rfl, rfl⟩ := h; exact State.slotAt_putSlot_self ..
  · next h => exact State.slotAt_putSlot_of_ne s x h

@[simp] theorem State.slotAt_touch (s : State) (p q : SetIx) (w v : Way) :
    (s.touch p w).slotAt q v = s.slotAt q v := by
  by_cases hq : q = p
  · subst hq; simp [State.slotAt, State.touch]
  · have h' : p.val ≠ q.val := fun e => hq (Fin.ext e.symm)
    simp [State.slotAt, State.touch, h']

@[simp] theorem State.engine_putEngine_self (s : State) (st : Stage) (e : Engine) :
    (s.putEngine st e).engine st = e := by
  simp [State.engine, State.putEngine]

theorem State.engine_putEngine_of_ne (s : State) {st st' : Stage} (e : Engine) (h : st' ≠ st) :
    (s.putEngine st e).engine st' = s.engine st' := by
  have h' : st.val ≠ st'.val := fun x => h (Fin.ext x.symm)
  simp [State.engine, State.putEngine, h']

theorem State.engine_putEngine (s : State) (st st' : Stage) (e : Engine) :
    (s.putEngine st e).engine st' = if st' = st then e else s.engine st' := by
  split
  · next h => subst h; exact State.engine_putEngine_self ..
  · next h => exact State.engine_putEngine_of_ne s e h

@[simp] theorem Counters.get_put_self (b : Counters) (c : CounterId) (v : Nat) : (b.put c v).get c = v := by
  cases c <;> simp [Counters.put, Counters.get]

theorem Counters.get_put_of_ne (b : Counters) {c c' : CounterId} (v : Nat) (h : c' ≠ c) :
    (b.put c v).get c' = b.get c' := by
  cases c <;> cases c' <;> try rfl
  all_goals
    rename_i x y
    have h' : x.val ≠ y.val := fun e => h (by rw [Fin.ext e])
    simp [Counters.put, Counters.get, h']

@[simp] theorem Counters.get_zero (c : CounterId) : Counters.zero.get c = 0 := by
  cases c <;> simp [Counters.get, Counters.zero]

end Sys2Proof.Machine
end

