-- ==== Sys2Proof/Laws/Ops.lean ====
section
/-! SUPPORT. What the shared operations of Machine/Ops.lean can do: the notice queue by class, the
counters, and the look-ups of the point table. -/

namespace Sys2Proof.Machine

/-! ### The notice queue -/

theorem Reports.full_iff (r : Reports) : r.full = true ↔ 48 ≤ r.queue.length := by
  simp [Reports.full]

theorem Reports.not_full_iff (r : Reports) : r.full = false ↔ r.queue.length < 48 := by
  simp [Reports.full]

theorem Reports.hasRoutine_iff (r : Reports) :
    r.hasRoutine = true ↔ ∃ e ∈ r.queue, e.notice.cls = .routine := by
  simp [Reports.hasRoutine, NoticeEntry.routine]

theorem Reports.displace_length_lt (r : Reports) (h : r.hasRoutine = true) :
    r.displace.queue.length < r.queue.length := by
  obtain ⟨e, he, hc⟩ := List.any_eq_true.mp h
  have hl : r.displace.queue.length = r.queue.length - 1 := List.length_eraseP_of_mem he hc
  have hp : 0 < r.queue.length := List.length_pos_of_mem he
  omega

/-- What one increment of the counter of notices dropped can do. -/
theorem Reports.countDrop_cases (r : Reports) :
    r.countDrop = r ∨
    (∃ v, r.counters.get noticesDropped < v ∧ v ≤ 65535 ∧
      r.countDrop.counters = r.counters.put noticesDropped v ∧
      (r.countDrop.queue = r.queue ∨
        (r.queue.length < 48 ∧
          r.countDrop.queue = r.queue ++ [{ number := r.number, notice := .counterHalf noticesDropped 32768 }]))) := by
  generalize hq : r.countDrop = q
  simp only [Reports.countDrop] at hq
  split at hq
  · exact .inl hq.symm
  · next hlt =>
    simp only [noticesDropped, CounterId.max, Nat.not_le] at hlt
    refine .inr ?_
    split at hq
    · next hmid =>
      simp only [noticesDropped, CounterId.mid] at hmid
      split at hq
      · subst hq
        exact ⟨_, Nat.lt_add_of_pos_right (by decide), by simp only [noticesDropped]; omega, rfl, .inl rfl⟩
      · next hnf =>
        subst hq
        refine ⟨_, Nat.lt_succ_self _, by simp only [noticesDropped]; omega, rfl, .inr ⟨?_, ?_⟩⟩
        · simpa [Reports.full] using hnf
        · simp [Reports.join, noticesDropped, hmid]
    · subst hq
      exact ⟨_, Nat.lt_succ_self _, by simp only [noticesDropped]; omega, rfl, .inl rfl⟩

theorem Counters.put_le {b : Counters} {c : CounterId} {v : Nat} (hb : ∀ x, b.get x ≤ x.max) (hv : v ≤ c.max) :
    ∀ x, (b.put c v).get x ≤ x.max := by
  intro x
  by_cases h : x = c
  · subst h; simpa using hv
  · rw [Counters.get_put_of_ne b v h]; exact hb x

theorem Reports.Bounded.countDrop {r : Reports} (h : r.Bounded) : r.countDrop.Bounded := by
  rcases r.countDrop_cases with he | ⟨v, _, hv, hc, hq⟩
  · rw [he]; exact h
  · refine ⟨?_, ?_⟩
    · rcases hq with hq | ⟨hl, hq⟩
      · rw [hq]; exact h.1
      · rw [hq]; simp; omega
    · rw [hc]; exact Counters.put_le h.2 hv

theorem Reports.Bounded.join {r : Reports} (h : r.Bounded) (hl : r.queue.length < 48) (n : Notice) :
    (r.join n).Bounded :=
  ⟨by simp [Reports.join]; omega, h.2⟩

theorem Reports.Bounded.displaceJoin {r : Reports} (h : r.Bounded) (hr : r.hasRoutine = true) (n : Notice) :
    (r.displace.join n).Bounded := by
  have hl := r.displace_length_lt hr
  exact ⟨by simp only [Reports.join, List.length_append, List.length_singleton]; have := h.1; omega, h.2⟩

theorem Reports.Bounded.passOver {r : Reports} (h : r.Bounded) : r.passOver.Bounded := h

/-- An offer leaves the queue and the counters within their bounds. -/
theorem Reports.Bounded.offer {r : Reports} (h : r.Bounded) (n : Notice) : (r.offer n).Bounded := by
  unfold Reports.offer
  split
  · next hf => exact h.join (r.not_full_iff.mp hf) n
  · split
    · next hc => exact (h.displaceJoin hc.2 n).countDrop
    · exact h.passOver.countDrop

theorem Reports.Bounded.offerAll {r : Reports} (h : r.Bounded) (ns : List Notice) :
    (ns.foldl Reports.offer r).Bounded := by
  induction ns generalizing r with
  | nil => exact h
  | cons n ns ih => exact ih (h.offer n)

theorem Reports.Bounded.offerClosed {r r' : Reports} (h : r.Bounded) {n : Notice}
    (he : r.offerClosed n = some r') : r'.Bounded := by
  unfold Reports.offerClosed at he
  split at he
  · next hf => cases he; exact h.join (r.not_full_iff.mp hf) n
  · split at he
    · next hr => cases he; exact (h.displaceJoin hr n).countDrop
    · cases he

/-- An increment leaves the queue and the counters within their bounds. -/
theorem Reports.Bounded.count {r : Reports} (h : r.Bounded) (c : CounterId) : (r.count c).Bounded := by
  unfold Reports.count
  simp only
  split
  · exact h
  · next hlt =>
    have hb : ({ r with counters := r.counters.put c (r.counters.get c + 1) } : Reports).Bounded :=
      ⟨h.1, Counters.put_le h.2 (by omega)⟩
    split
    · exact hb.offer _
    · exact hb

/-! ### The point table -/

theorem PointSet.find_some {ps : PointSet} {pt : PointId} {w : Way} (h : ps.find pt = some w) :
    ∃ sl, ps.get w = some sl ∧ sl.point = pt := by
  unfold PointSet.find at h
  split at h
  · next h0 =>
    cases h
    unfold PointSet.holds at h0
    split at h0
    · next sl hsl => exact ⟨sl, hsl, by simpa using h0⟩
    · cases h0
  · split at h
    · next h1 =>
      cases h
      unfold PointSet.holds at h1
      split at h1
      · next sl hsl => exact ⟨sl, hsl, by simpa using h1⟩
      · cases h1
    · cases h

theorem PointSet.find_none {ps : PointSet} {pt : PointId} (h : ps.find pt = none) {w : Way} {sl : Slot}
    (hw : ps.get w = some sl) : sl.point ≠ pt := by
  unfold PointSet.find at h
  split at h
  · cases h
  · next h0 =>
    split at h
    · cases h
    · next h1 =>
      intro he
      cases w
      · exact h0 (by simp [PointSet.holds, hw, he])
      · exact h1 (by simp [PointSet.holds, hw, he])

theorem mem_allSets (p : SetIx) : p ∈ allSets := by revert p; decide

theorem mem_allStages (st : Stage) : st ∈ allStages := by revert st; decide

theorem mem_allZones (z : Zone) : z ∈ allZones := by revert z; decide

theorem mem_allSlots (i : SlotIx) : i ∈ allSlots := by revert i; decide

/-- The valid slots are those that stand in a way of a set. -/
theorem State.mem_slots {s : State} {sl : Slot} : sl ∈ s.slots ↔ ∃ p w, s.slotAt p w = some sl := by
  simp only [State.slots, List.mem_flatMap, PointSet.slots, List.mem_append, Option.mem_toList]
  constructor
  · rintro ⟨p, _, h | h⟩
    · exact ⟨p, .zero, h⟩
    · exact ⟨p, .one, h⟩
  · rintro ⟨p, w, h⟩
    refine ⟨p, mem_allSets p, ?_⟩
    cases w
    · exact .inl h
    · exact .inr h

theorem Slot.isMeter_iff (sl : Slot) (st : Stage) : sl.isMeter st = true ↔ sl.use = .stage st := by
  unfold Slot.isMeter
  split <;> simp_all

/-- A stage's meter is a valid slot declared STAGE for it. -/
theorem State.meterSlot_some {s : State} {st : Stage} {sl : Slot} (h : s.meterSlot st = some sl) :
    sl ∈ s.slots ∧ sl.use = .stage st :=
  ⟨List.mem_of_find?_eq_some h, (sl.isMeter_iff st).mp (by simpa using List.find?_some h)⟩

theorem State.meterSlot_none {s : State} {st : Stage} :
    s.meterSlot st = none ↔ ∀ sl ∈ s.slots, sl.use ≠ .stage st := by
  simp [State.meterSlot, List.find?_eq_none, Slot.isMeter_iff]

theorem State.hasMeter_iff {s : State} {st : Stage} :
    s.hasMeter st = true ↔ ∃ sl ∈ s.slots, sl.use = .stage st := by
  simp [State.hasMeter, State.meterSlot, Slot.isMeter_iff]

/-- The owner of a column is the locked BOUNDARY or FOH point of way 1. -/
theorem PointSet.owner_eq_some {ps : PointSet} {pt : PointId} :
    ps.owner = some pt ↔ ∃ sl, ps.way1 = some sl ∧ sl.locked = true ∧ sl.use.fixed = true ∧ sl.point = pt := by
  unfold PointSet.owner
  cases ps.way1 with
  | none => simp
  | some sl => by_cases h : sl.locked = true <;> by_cases h' : sl.use.fixed = true <;> simp [h, h']

end Sys2Proof.Machine
end

