-- ==== Sys2Proof/Laws/Frames.lean ====
section
/-! SUPPORT. The frames of the blocks' operations: which fields of the state an operation can change. Each
lemma says that the result is the state before with some of its fields replaced. -/

namespace Sys2Proof.Machine

/-- A relation between states that every step of a fold keeps holds between its ends. -/
theorem foldl_relates {α : Type} {R : State → State → Prop} (hr : ∀ s, R s s)
    (ht : ∀ s t u, R s t → R t u → R s u) {f : State → α → State} (hf : ∀ s a, R s (f s a)) (l : List α)
    (s : State) : R s (l.foldl f s) := by
  induction l generalizing s with
  | nil => exact hr s
  | cons a l ih => exact ht _ _ _ (hf s a) (ih _)

/-! ### The gain engines and the stage link -/

theorem State.withEngine_frame (s : State) (st : Stage) (x : Engine × List Notice) :
    ∃ e r, s.withEngine st x = { s with engines := e, reports := r } := ⟨_, _, rfl⟩

theorem State.chooseOrder_frame (s : State) :
    ∃ e l, s.chooseOrder = { s with engines := e, link := l } := by
  unfold State.chooseOrder
  split
  · exact ⟨_, _, rfl⟩
  · split
    · exact ⟨_, _, rfl⟩
    · exact ⟨_, _, rfl⟩

theorem State.takeControl_frame (s : State) :
    ∃ e r, s.takeControl = { s with engines := e, reports := r } :=
  foldl_relates (R := fun s t => ∃ e r, t = { s with engines := e, reports := r }) (fun s => ⟨_, _, rfl⟩)
    (by rintro s _ _ ⟨_, _, rfl⟩ ⟨_, _, rfl⟩; exact ⟨_, _, rfl⟩)
    (fun s st => by split <;> exact ⟨_, _, rfl⟩) _ _

/-! ### The control block -/

theorem State.retarget_frame (s : State) :
    ∃ t e, s.retarget = { s with control := { s.control with targets := t }, engines := e } :=
  foldl_relates (R := fun s u => ∃ t e, u = { s with control := { s.control with targets := t }, engines := e })
    (fun s => ⟨_, _, rfl⟩) (by rintro s _ _ ⟨_, _, rfl⟩ ⟨_, _, rfl⟩; exact ⟨_, _, rfl⟩)
    (fun s st => by unfold State.retargetStage; simp only; split <;> exact ⟨_, _, rfl⟩) _ _

theorem State.controlEvent_frame (s : State) (c : Control) :
    ∃ t e, s.controlEvent c = { s with control := { c with targets := t }, engines := e } :=
  State.retarget_frame { s with control := c }

theorem State.evaluate_frame (s : State) (p : SetIx) (own : Bool) (margin x : Nat) (h : Option Int) :
    ∃ n t e r, s.evaluate p own margin x h =
      { s with control := { s.control with needs := n, targets := t }, engines := e, reports := r } := by
  unfold State.evaluate
  split
  · split <;> exact ⟨_, _, _, _, rfl⟩
  · split
    · split
      · split
        · obtain ⟨t, e, he⟩ := s.controlEvent_frame (s.control.mapColumn p fun _ n => n - 10)
          exact ⟨_, _, _, _, he⟩
        · exact ⟨_, _, _, _, rfl⟩
      · exact ⟨_, _, _, _, rfl⟩
    · obtain ⟨t, e, he⟩ := s.controlEvent_frame (s.control.mapColumn p fun st n =>
        if s.attributed p st then min 300 ((s.engine st).applied + x) else n)
      exact ⟨_, _, _, _, he⟩

theorem State.freezeSet_frame (s : State) (p : SetIx) :
    ∃ f, s.freezeSet p = { s with control := { s.control with freeze := f } } := by
  unfold State.freezeSet
  split <;> exact ⟨_, rfl⟩

theorem State.clearColumn_frame (s : State) (p : SetIx) :
    ∃ c e, s.clearColumn p = { s with control := c, engines := e } := by
  obtain ⟨t, e, he⟩ := s.controlEvent_frame _
  exact ⟨_, _, he⟩

theorem State.couple_frame (s : State) (st : Stage) (p : SetIx) (v : Option Nat) :
    ∃ c e, s.couple st p v = { s with control := c, engines := e } := by
  obtain ⟨t, e, he⟩ := s.controlEvent_frame _
  exact ⟨_, _, he⟩

/-! ### The standby monitor -/

theorem State.judgeDark_frame (s : State) :
    ∃ t, s.judgeDark = { s with standby := { s.standby with timer := t } } := by
  unfold State.judgeDark
  split
  · exact ⟨_, rfl⟩
  · split
    · split <;> exact ⟨_, rfl⟩
    · exact ⟨_, rfl⟩

theorem State.restartDark_frame (s : State) :
    ∃ t, s.restartDark = { s with standby := { s.standby with timer := t } } := by
  unfold State.restartDark
  split
  · exact ⟨_, rfl⟩
  · split <;> exact ⟨_, rfl⟩

theorem State.excessTold_frame (s : State) (p : SetIx) :
    ∃ b e r, s.excessTold p = { s with standby := b, engines := e, reports := r } := by
  unfold State.excessTold
  split
  · obtain ⟨t, ht⟩ := (s.leaveDark (.excess p)).restartDark_frame
    exact ⟨_, _, _, ht⟩
  · obtain ⟨t, ht⟩ := s.restartDark_frame
    exact ⟨_, _, _, ht⟩

theorem State.stageL1_frame (s : State) (st : Stage) (l1 : Option Nat) :
    ∃ b e r, s.stageL1 st l1 = { s with standby := b, engines := e, reports := r } := by
  unfold State.stageL1
  simp only
  split
  · split
    · obtain ⟨t, ht⟩ := State.restartDark_frame _
      exact ⟨_, _, _, ht⟩
    · exact ⟨_, _, _, rfl⟩
  · obtain ⟨t, ht⟩ := State.judgeDark_frame _
    exact ⟨_, _, _, ht⟩

theorem State.stageStale_frame (s : State) (st : Stage) :
    ∃ b, s.stageStale st = { s with standby := b } := by
  obtain ⟨t, ht⟩ := State.judgeDark_frame _
  exact ⟨_, ht⟩

theorem State.stageFresh_frame (s : State) (st : Stage) :
    ∃ b, s.stageFresh st = { s with standby := b } := by
  obtain ⟨t, ht⟩ := State.judgeDark_frame _
  exact ⟨_, ht⟩

theorem State.metersChanged_frame (s : State) (before : List (Option PointId)) :
    ∃ b, s.metersChanged before = { s with standby := b } := by
  unfold State.metersChanged
  split
  · exact ⟨_, rfl⟩
  · have hf : ∃ b, allStages.foldl (fun (t : State) (st : Stage) =>
        if s.meterIds[st.val]? = before[st.val]? then t else t.forgetMeter st) s = { s with standby := b } :=
      foldl_relates (R := fun s t => ∃ b, t = { s with standby := b }) (fun s => ⟨_, rfl⟩)
        (by rintro s _ _ ⟨_, rfl⟩ ⟨_, rfl⟩; exact ⟨_, rfl⟩)
        (fun s st => by split <;> exact ⟨_, rfl⟩) _ _
    obtain ⟨b, hb⟩ := hf
    rw [hb]
    obtain ⟨t, ht⟩ := State.restartDark_frame { s with standby := b }
    exact ⟨_, ht⟩

theorem State.foldQuiet_frame (s : State) (q : State → Stage → Bool) :
    ∃ b, allStages.foldl (fun t st => t.setQuiet st (q t st)) s = { s with standby := b } :=
  foldl_relates (R := fun s t => ∃ b, t = { s with standby := b }) (fun s => ⟨_, rfl⟩)
    (by rintro s _ _ ⟨_, rfl⟩ ⟨_, rfl⟩; exact ⟨_, rfl⟩) (fun s st => ⟨_, rfl⟩) _ _

theorem State.setDark_frame (s : State) (enable : Bool) (threshold darkTime : Nat) :
    ∃ b e r, s.setDark enable threshold darkTime = { s with standby := b, engines := e, reports := r } := by
  unfold State.setDark
  simp only
  split
  · split <;> exact ⟨_, _, _, rfl⟩
  · split
    · exact ⟨_, _, _, rfl⟩
    · obtain ⟨b, hb⟩ := State.foldQuiet_frame
        { s with standby := { s.standby with enable := enable, threshold := threshold, darkTime := darkTime } }
        (fun t st => match t.meterSlot st with
          | some sl => sl.win.stale || !(loudL1 threshold t.standby.lastL1[st])
          | none => true)
      obtain ⟨t, ht⟩ := State.restartDark_frame { s with standby := b }
      exact ⟨_, _, _, (congrArg State.restartDark hb).trans ht⟩

theorem State.enforceStandby_frame (s : State) :
    ∃ b e r, s.enforceStandby = { s with standby := b, engines := e, reports := r } := by
  unfold State.enforceStandby
  simp only
  split
  · obtain ⟨t, ht⟩ := State.restartDark_frame _
    exact ⟨_, _, _, ht⟩
  · obtain ⟨t, ht⟩ := State.restartDark_frame _
    exact ⟨_, _, _, ht⟩

/-! ### The point table -/

theorem State.evict_frame {s t : State} {p : SetIx} {w : Way} {cause : CloseCause}
    (h : s.evict p w cause = some t) :
    ∃ ps r x, t = { s with points := ps, reports := r, exporter := x } := by
  unfold State.evict at h
  split at h
  · cases h; exact ⟨_, _, _, rfl⟩
  · split at h
    · split at h
      · cases h; exact ⟨_, _, _, rfl⟩
      · cases h
    · cases h; exact ⟨_, _, _, rfl⟩

theorem State.tableChanged_frame (s before : State) (p : SetIx) :
    ∃ c e b, s.tableChanged before p = { s with control := c, engines := e, standby := b } := by
  unfold State.tableChanged
  simp only
  obtain ⟨b, hb⟩ := State.metersChanged_frame
    (if (before.points[p]).owner = (s.points[p]).owner ∨ (before.points[p]).owner = none
      then s else s.clearColumn p) before.meterIds
  rw [hb]
  split
  · exact ⟨_, _, _, rfl⟩
  · obtain ⟨c, e, he⟩ := s.clearColumn_frame p
    rw [he]
    exact ⟨_, _, _, rfl⟩

theorem State.seat_frame (s : State) (r : Reading) :
    ∃ ps x rep, (s.seat r).1 = { s with points := ps, exporter := x, reports := rep } := by
  unfold State.seat
  simp only
  split
  · exact ⟨_, _, _, rfl⟩
  · split
    · exact ⟨_, _, _, rfl⟩
    · split
      · exact ⟨_, _, _, rfl⟩
      · next h =>
        obtain ⟨_, _, _, rfl⟩ := State.evict_frame h
        exact ⟨_, _, _, rfl⟩

/-! ### The limit schedule -/

theorem State.permissionClose_frame (s : State) (before : Schedule) :
    ∃ e r, s.permissionClose before = { s with engines := e, reports := r } :=
  foldl_relates (R := fun s t => ∃ e r, t = { s with engines := e, reports := r }) (fun s => ⟨_, _, rfl⟩)
    (by rintro s _ _ ⟨_, _, rfl⟩ ⟨_, _, rfl⟩; exact ⟨_, _, rfl⟩)
    (fun t st => by split <;> exact ⟨_, _, rfl⟩) _ _

theorem State.schedEvent_frame (s : State) (f : Ledger → Ledger) :
    ∃ e r, s.schedEvent f =
      { s with sched := (f { sched := s.sched, reports := s.reports }).sched, engines := e, reports := r } := by
  obtain ⟨e, r, h⟩ := State.permissionClose_frame _ _
  exact ⟨e, r, h⟩

/-! ### The window engine -/

theorem State.tellFresh_frame (s : State) (p : SetIx) (sl : Slot) :
    ∃ c b, s.tellFresh p sl = { s with control := c, standby := b } := by
  unfold State.tellFresh
  split
  · split <;> exact ⟨_, _, rfl⟩
  · split <;> exact ⟨_, _, rfl⟩
  · obtain ⟨b, hb⟩ := s.stageFresh_frame _
    exact ⟨_, _, hb⟩
  · exact ⟨_, _, rfl⟩

theorem State.tellStale_frame (s : State) (p : SetIx) (sl : Slot) :
    ∃ c b, s.tellStale p sl = { s with control := c, standby := b } := by
  unfold State.tellStale
  split
  · split
    · obtain ⟨f, hf⟩ := s.freezeSet_frame p
      exact ⟨_, _, hf⟩
    · exact ⟨_, _, rfl⟩
  · split
    · obtain ⟨f, hf⟩ := s.freezeSet_frame p
      exact ⟨_, _, hf⟩
    · exact ⟨_, _, rfl⟩
  · obtain ⟨b, hb⟩ := s.stageStale_frame _
    exact ⟨_, _, hb⟩
  · exact ⟨_, _, rfl⟩

theorem State.refreshSlot_frame (s : State) (p : SetIx) (w : Way) (r : Reading) :
    ∃ ps c b rep, s.refreshSlot p w r =
      { s with points := ps, control := c, standby := b, reports := rep } := by
  unfold State.refreshSlot
  split
  · exact ⟨_, _, _, _, rfl⟩
  · simp only
    split
    · split
      · obtain ⟨c, b, h⟩ := State.tellFresh_frame _ _ _
        rw [h]; exact ⟨_, _, _, _, rfl⟩
      · exact ⟨_, _, _, _, rfl⟩
    · split
      · obtain ⟨c, b, h⟩ := State.tellFresh_frame _ _ _
        rw [h]; exact ⟨_, _, _, _, rfl⟩
      · exact ⟨_, _, _, _, rfl⟩

theorem State.score_frame (s : State) (p : SetIx) (w : Way) (z : Zone) (lim : LimitSet) (r : Reading) :
    ∃ ps x rep, s.score p w z lim r = { s with points := ps, sched := x, reports := rep } := by
  unfold State.score
  split <;> exact ⟨_, _, _, rfl⟩

theorem State.stepExceed_frame (s : State) (p : SetIx) (w : Way) (f : Slot → Slot × List Notice) :
    ∃ ps rep, s.stepExceed p w f = { s with points := ps, reports := rep } := by
  unfold State.stepExceed
  split <;> exact ⟨_, _, rfl⟩

theorem State.workFixed_frame (s : State) (p : SetIx) (w : Way) (z : Zone) (lim : LimitSet) (r : Reading) :
    ∃ ps x c e b rep, s.workFixed p w z lim r =
      { s with points := ps, sched := x, control := c, engines := e, standby := b, reports := rep } := by
  unfold State.workFixed
  split
  · exact ⟨_, _, _, _, _, _, rfl⟩
  · next sl _ =>
    simp only
    obtain ⟨ps1, x1, r1, h1⟩ := s.score_frame p w z lim r
    rw [h1]
    obtain ⟨ps2, r2, h2⟩ := State.stepExceed_frame
      { s with points := ps1, sched := x1, reports := r1 } p w fun t =>
        t.exceedStep (excess lim sl.win.l1 sl.win.pk r.peak) (dominantKind lim sl.win.l1 sl.win.pk r.peak)
    rw [h2]
    obtain ⟨n, t, e, r3, h3⟩ := State.evaluate_frame
      { s with points := ps2, sched := x1, reports := r2 } p (decide (w = .one) && sl.locked) lim.margin
      (excess lim sl.win.l1 sl.win.pk r.peak) (headroom lim sl.win.l1 sl.win.pk)
    rw [h3]
    split
    · obtain ⟨b, e', r4, h4⟩ := State.excessTold_frame _ p
      rw [h4]
      exact ⟨_, _, _, _, _, _, rfl⟩
    · exact ⟨_, _, _, _, _, _, rfl⟩

theorem State.workStage_frame (s : State) (p : SetIx) (w : Way) (st : Stage) (r : Reading) :
    ∃ ps e b rep, s.workStage p w st r =
      { s with points := ps, engines := e, standby := b, reports := rep } := by
  unfold State.workStage
  simp only
  obtain ⟨ps1, r1, h1⟩ := s.stepExceed_frame p w Slot.exceedEnd
  rw [h1]
  obtain ⟨b, e, r2, h2⟩ := State.stageL1_frame { s with points := ps1, reports := r1 } st
    ((({ s with points := ps1, reports := r1 } : State).slotAt p w).bind (·.win.l1))
  rw [h2]
  split <;> exact ⟨_, _, _, _, rfl⟩

theorem State.roleWork_frame (s : State) (p : SetIx) (w : Way) (u : Use) (lim : LimitSet) (r : Reading) :
    ∃ ps x c e b rep, s.roleWork p w u lim r =
      { s with points := ps, sched := x, control := c, engines := e, standby := b, reports := rep } := by
  unfold State.roleWork
  split
  · split
    · exact ⟨_, _, _, _, _, _, rfl⟩
    · exact s.workFixed_frame ..
  · split
    · exact ⟨_, _, _, _, _, _, rfl⟩
    · exact s.workFixed_frame ..
  · next z =>
    obtain ⟨ps, x, rep, h⟩ : ∃ ps x rep, (if r.cal then s else s.score p w z lim r) =
        { s with points := ps, sched := x, reports := rep } := by
      split
      · exact ⟨_, _, _, rfl⟩
      · exact s.score_frame ..
    rw [h]
    obtain ⟨ps', rep', h'⟩ := State.stepExceed_frame _ p w Slot.exceedEnd
    rw [h']
    exact ⟨_, _, _, _, _, _, rfl⟩
  · obtain ⟨ps, e, b, rep, h⟩ := s.workStage_frame p w _ r
    rw [h]
    exact ⟨_, _, _, _, _, _, rfl⟩

theorem State.windowWork_frame (s : State) (p : SetIx) (w : Way) (r : Reading) :
    ∃ ps x c e b rep, s.windowWork p w r =
      { s with points := ps, sched := x, control := c, engines := e, standby := b, reports := rep } := by
  unfold State.windowWork
  split
  · exact ⟨_, _, _, _, _, _, rfl⟩
  · next sl _ =>
    split
    · exact ⟨_, _, _, _, _, _, rfl⟩
    · exact ⟨_, _, _, _, _, _, rfl⟩
    · next n _ =>
      simp only
      obtain ⟨ps, c, b, rep, h⟩ := (s.advanceTo p w sl (s.limitsFor sl.use) n r).refreshSlot_frame p w r
      rw [h]
      obtain ⟨ps', x', c', e', b', rep', h'⟩ := State.roleWork_frame
        (State.storeFigures { s.advanceTo p w sl (s.limitsFor sl.use) n r with
          points := ps, control := c, standby := b, reports := rep } p w (s.limitsFor sl.use))
        p w sl.use (s.limitsFor sl.use) r
      rw [h']
      exact ⟨_, _, _, _, _, _, rfl⟩

theorem State.processReading_frame (s : State) (r : Reading) :
    ∃ ps x c e b rep ex, s.processReading r =
      { s with points := ps, sched := x, control := c, engines := e, standby := b, reports := rep,
               exporter := ex } := by
  unfold State.processReading
  obtain ⟨ps, ex, rep, h⟩ := s.seat_frame r
  split
  · next s1 w he =>
    rw [he] at h
    simp only at h
    subst h
    obtain ⟨ps', x', c', e', b', rep', h'⟩ := State.windowWork_frame _ (setOf r.point) w r
    rw [h']
    exact ⟨_, _, _, _, _, _, _, rfl⟩
  · next s1 he =>
    rw [he] at h
    simp only at h
    subst h
    exact ⟨_, _, _, _, _, _, _, rfl⟩

theorem State.tickSlot_frame (s : State) (p : SetIx) (w : Way) :
    ∃ ps c b rep, s.tickSlot p w = { s with points := ps, control := c, standby := b, reports := rep } := by
  unfold State.tickSlot
  split
  · exact ⟨_, _, _, _, rfl⟩
  · split
    · exact ⟨_, _, _, _, rfl⟩
    · split
      · obtain ⟨c, b, h⟩ := State.tellStale_frame _ _ _
        rw [h]; exact ⟨_, _, _, _, rfl⟩
      · exact ⟨_, _, _, _, rfl⟩

/-! ### The console line -/

theorem State.chooseFrame_frame (s : State) :
    ∃ c x q, s.chooseFrame =
      { s with console := c, exporter := x, reports := { s.reports with queue := q } } := by
  unfold State.chooseFrame
  split
  · exact ⟨_, _, _, rfl⟩
  · split
    · exact ⟨_, _, _, rfl⟩
    · split
      · exact ⟨_, _, _, rfl⟩
      · split <;> exact ⟨_, _, _, rfl⟩

/-- The transmitters' choice changes the two links, the order marks and sequences of engines, the export's
cursor and the notice queue, and nothing else. -/
theorem State.transmit_frame (s : State) :
    ∃ e l c x q, s.transmit =
      { s with engines := e, link := l, console := c, exporter := x,
               reports := { s.reports with queue := q } } := by
  unfold State.transmit
  split
  · exact ⟨_, _, _, _, _, rfl⟩
  · obtain ⟨e, l, h⟩ := s.chooseOrder_frame
    rw [h]
    obtain ⟨c, x, q, h'⟩ := State.chooseFrame_frame { s with engines := e, link := l }
    rw [h']
    exact ⟨_, _, _, _, _, rfl⟩

/-- A command that acts on a running part does what its operation does, then the transmitters choose. -/
theorem State.act_running {s : State} (h : s.held = false) (f : State → State) :
    s.act f = .next (f s).transmit := by
  simp [State.act, h]

/-- A command that acts changes nothing while a reset holds the part. -/
theorem State.act_held {s : State} (h : s.held = true) (f : State → State) : s.act f = .next s := by
  simp [State.act, h]

end Sys2Proof.Machine
end

