-- ==== Sys2Proof/Laws/FrameFields.lean ====
section
/-! SUPPORT. The fields that an operation's frame leaves alone, one simp lemma for each. -/

namespace Sys2Proof.Machine

@[simp] theorem State.chooseOrder_hold (s : State) : s.chooseOrder.hold = s.hold := by
  obtain ⟨_, _, h⟩ := s.chooseOrder_frame; rw [h]
@[simp] theorem State.chooseOrder_straps (s : State) : s.chooseOrder.straps = s.straps := by
  obtain ⟨_, _, h⟩ := s.chooseOrder_frame; rw [h]
@[simp] theorem State.chooseOrder_now (s : State) : s.chooseOrder.now = s.now := by
  obtain ⟨_, _, h⟩ := s.chooseOrder_frame; rw [h]
@[simp] theorem State.chooseOrder_freshAt (s : State) : s.chooseOrder.freshAt = s.freshAt := by
  obtain ⟨_, _, h⟩ := s.chooseOrder_frame; rw [h]
@[simp] theorem State.chooseOrder_meter (s : State) : s.chooseOrder.meter = s.meter := by
  obtain ⟨_, _, h⟩ := s.chooseOrder_frame; rw [h]
@[simp] theorem State.chooseOrder_readings (s : State) : s.chooseOrder.readings = s.readings := by
  obtain ⟨_, _, h⟩ := s.chooseOrder_frame; rw [h]
@[simp] theorem State.chooseOrder_points (s : State) : s.chooseOrder.points = s.points := by
  obtain ⟨_, _, h⟩ := s.chooseOrder_frame; rw [h]
@[simp] theorem State.chooseOrder_sched (s : State) : s.chooseOrder.sched = s.sched := by
  obtain ⟨_, _, h⟩ := s.chooseOrder_frame; rw [h]
@[simp] theorem State.chooseOrder_control (s : State) : s.chooseOrder.control = s.control := by
  obtain ⟨_, _, h⟩ := s.chooseOrder_frame; rw [h]
@[simp] theorem State.chooseOrder_console (s : State) : s.chooseOrder.console = s.console := by
  obtain ⟨_, _, h⟩ := s.chooseOrder_frame; rw [h]
@[simp] theorem State.chooseOrder_reports (s : State) : s.chooseOrder.reports = s.reports := by
  obtain ⟨_, _, h⟩ := s.chooseOrder_frame; rw [h]
@[simp] theorem State.chooseOrder_exporter (s : State) : s.chooseOrder.exporter = s.exporter := by
  obtain ⟨_, _, h⟩ := s.chooseOrder_frame; rw [h]
@[simp] theorem State.chooseOrder_standby (s : State) : s.chooseOrder.standby = s.standby := by
  obtain ⟨_, _, h⟩ := s.chooseOrder_frame; rw [h]
@[simp] theorem State.chooseOrder_pending (s : State) : s.chooseOrder.pending = s.pending := by
  obtain ⟨_, _, h⟩ := s.chooseOrder_frame; rw [h]

@[simp] theorem State.takeControl_hold (s : State) : s.takeControl.hold = s.hold := by
  obtain ⟨_, _, h⟩ := s.takeControl_frame; rw [h]
@[simp] theorem State.takeControl_straps (s : State) : s.takeControl.straps = s.straps := by
  obtain ⟨_, _, h⟩ := s.takeControl_frame; rw [h]
@[simp] theorem State.takeControl_now (s : State) : s.takeControl.now = s.now := by
  obtain ⟨_, _, h⟩ := s.takeControl_frame; rw [h]
@[simp] theorem State.takeControl_freshAt (s : State) : s.takeControl.freshAt = s.freshAt := by
  obtain ⟨_, _, h⟩ := s.takeControl_frame; rw [h]
@[simp] theorem State.takeControl_meter (s : State) : s.takeControl.meter = s.meter := by
  obtain ⟨_, _, h⟩ := s.takeControl_frame; rw [h]
@[simp] theorem State.takeControl_readings (s : State) : s.takeControl.readings = s.readings := by
  obtain ⟨_, _, h⟩ := s.takeControl_frame; rw [h]
@[simp] theorem State.takeControl_points (s : State) : s.takeControl.points = s.points := by
  obtain ⟨_, _, h⟩ := s.takeControl_frame; rw [h]
@[simp] theorem State.takeControl_sched (s : State) : s.takeControl.sched = s.sched := by
  obtain ⟨_, _, h⟩ := s.takeControl_frame; rw [h]
@[simp] theorem State.takeControl_control (s : State) : s.takeControl.control = s.control := by
  obtain ⟨_, _, h⟩ := s.takeControl_frame; rw [h]
@[simp] theorem State.takeControl_link (s : State) : s.takeControl.link = s.link := by
  obtain ⟨_, _, h⟩ := s.takeControl_frame; rw [h]
@[simp] theorem State.takeControl_console (s : State) : s.takeControl.console = s.console := by
  obtain ⟨_, _, h⟩ := s.takeControl_frame; rw [h]
@[simp] theorem State.takeControl_exporter (s : State) : s.takeControl.exporter = s.exporter := by
  obtain ⟨_, _, h⟩ := s.takeControl_frame; rw [h]
@[simp] theorem State.takeControl_standby (s : State) : s.takeControl.standby = s.standby := by
  obtain ⟨_, _, h⟩ := s.takeControl_frame; rw [h]
@[simp] theorem State.takeControl_pending (s : State) : s.takeControl.pending = s.pending := by
  obtain ⟨_, _, h⟩ := s.takeControl_frame; rw [h]

@[simp] theorem State.retarget_hold (s : State) : s.retarget.hold = s.hold := by
  obtain ⟨_, _, h⟩ := s.retarget_frame; rw [h]
@[simp] theorem State.retarget_straps (s : State) : s.retarget.straps = s.straps := by
  obtain ⟨_, _, h⟩ := s.retarget_frame; rw [h]
@[simp] theorem State.retarget_now (s : State) : s.retarget.now = s.now := by
  obtain ⟨_, _, h⟩ := s.retarget_frame; rw [h]
@[simp] theorem State.retarget_freshAt (s : State) : s.retarget.freshAt = s.freshAt := by
  obtain ⟨_, _, h⟩ := s.retarget_frame; rw [h]
@[simp] theorem State.retarget_meter (s : State) : s.retarget.meter = s.meter := by
  obtain ⟨_, _, h⟩ := s.retarget_frame; rw [h]
@[simp] theorem State.retarget_readings (s : State) : s.retarget.readings = s.readings := by
  obtain ⟨_, _, h⟩ := s.retarget_frame; rw [h]
@[simp] theorem State.retarget_points (s : State) : s.retarget.points = s.points := by
  obtain ⟨_, _, h⟩ := s.retarget_frame; rw [h]
@[simp] theorem State.retarget_sched (s : State) : s.retarget.sched = s.sched := by
  obtain ⟨_, _, h⟩ := s.retarget_frame; rw [h]
@[simp] theorem State.retarget_link (s : State) : s.retarget.link = s.link := by
  obtain ⟨_, _, h⟩ := s.retarget_frame; rw [h]
@[simp] theorem State.retarget_console (s : State) : s.retarget.console = s.console := by
  obtain ⟨_, _, h⟩ := s.retarget_frame; rw [h]
@[simp] theorem State.retarget_reports (s : State) : s.retarget.reports = s.reports := by
  obtain ⟨_, _, h⟩ := s.retarget_frame; rw [h]
@[simp] theorem State.retarget_exporter (s : State) : s.retarget.exporter = s.exporter := by
  obtain ⟨_, _, h⟩ := s.retarget_frame; rw [h]
@[simp] theorem State.retarget_standby (s : State) : s.retarget.standby = s.standby := by
  obtain ⟨_, _, h⟩ := s.retarget_frame; rw [h]
@[simp] theorem State.retarget_pending (s : State) : s.retarget.pending = s.pending := by
  obtain ⟨_, _, h⟩ := s.retarget_frame; rw [h]

@[simp] theorem State.controlEvent_hold (s : State) (c : Control) : (s.controlEvent c).hold = s.hold := by
  obtain ⟨_, _, h⟩ := s.controlEvent_frame c; rw [h]
@[simp] theorem State.controlEvent_straps (s : State) (c : Control) :
    (s.controlEvent c).straps = s.straps := by
  obtain ⟨_, _, h⟩ := s.controlEvent_frame c; rw [h]
@[simp] theorem State.controlEvent_now (s : State) (c : Control) : (s.controlEvent c).now = s.now := by
  obtain ⟨_, _, h⟩ := s.controlEvent_frame c; rw [h]
@[simp] theorem State.controlEvent_freshAt (s : State) (c : Control) :
    (s.controlEvent c).freshAt = s.freshAt := by
  obtain ⟨_, _, h⟩ := s.controlEvent_frame c; rw [h]
@[simp] theorem State.controlEvent_meter (s : State) (c : Control) : (s.controlEvent c).meter = s.meter := by
  obtain ⟨_, _, h⟩ := s.controlEvent_frame c; rw [h]
@[simp] theorem State.controlEvent_readings (s : State) (c : Control) :
    (s.controlEvent c).readings = s.readings := by
  obtain ⟨_, _, h⟩ := s.controlEvent_frame c; rw [h]
@[simp] theorem State.controlEvent_points (s : State) (c : Control) :
    (s.controlEvent c).points = s.points := by
  obtain ⟨_, _, h⟩ := s.controlEvent_frame c; rw [h]
@[simp] theorem State.controlEvent_sched (s : State) (c : Control) : (s.controlEvent c).sched = s.sched := by
  obtain ⟨_, _, h⟩ := s.controlEvent_frame c; rw [h]
@[simp] theorem State.controlEvent_link (s : State) (c : Control) : (s.controlEvent c).link = s.link := by
  obtain ⟨_, _, h⟩ := s.controlEvent_frame c; rw [h]
@[simp] theorem State.controlEvent_console (s : State) (c : Control) :
    (s.controlEvent c).console = s.console := by
  obtain ⟨_, _, h⟩ := s.controlEvent_frame c; rw [h]
@[simp] theorem State.controlEvent_reports (s : State) (c : Control) :
    (s.controlEvent c).reports = s.reports := by
  obtain ⟨_, _, h⟩ := s.controlEvent_frame c; rw [h]
@[simp] theorem State.controlEvent_exporter (s : State) (c : Control) :
    (s.controlEvent c).exporter = s.exporter := by
  obtain ⟨_, _, h⟩ := s.controlEvent_frame c; rw [h]
@[simp] theorem State.controlEvent_standby (s : State) (c : Control) :
    (s.controlEvent c).standby = s.standby := by
  obtain ⟨_, _, h⟩ := s.controlEvent_frame c; rw [h]
@[simp] theorem State.controlEvent_pending (s : State) (c : Control) :
    (s.controlEvent c).pending = s.pending := by
  obtain ⟨_, _, h⟩ := s.controlEvent_frame c; rw [h]

@[simp] theorem State.evaluate_hold (s : State) (p : SetIx) (own : Bool) (m x : Nat) (h : Option Int) :
    (s.evaluate p own m x h).hold = s.hold := by
  obtain ⟨_, _, _, _, h⟩ := s.evaluate_frame p own m x h; rw [h]
@[simp] theorem State.evaluate_straps (s : State) (p : SetIx) (own : Bool) (m x : Nat) (h : Option Int) :
    (s.evaluate p own m x h).straps = s.straps := by
  obtain ⟨_, _, _, _, h⟩ := s.evaluate_frame p own m x h; rw [h]
@[simp] theorem State.evaluate_now (s : State) (p : SetIx) (own : Bool) (m x : Nat) (h : Option Int) :
    (s.evaluate p own m x h).now = s.now := by
  obtain ⟨_, _, _, _, h⟩ := s.evaluate_frame p own m x h; rw [h]
@[simp] theorem State.evaluate_freshAt (s : State) (p : SetIx) (own : Bool) (m x : Nat) (h : Option Int) :
    (s.evaluate p own m x h).freshAt = s.freshAt := by
  obtain ⟨_, _, _, _, h⟩ := s.evaluate_frame p own m x h; rw [h]
@[simp] theorem State.evaluate_meter (s : State) (p : SetIx) (own : Bool) (m x : Nat) (h : Option Int) :
    (s.evaluate p own m x h).meter = s.meter := by
  obtain ⟨_, _, _, _, h⟩ := s.evaluate_frame p own m x h; rw [h]
@[simp] theorem State.evaluate_readings (s : State) (p : SetIx) (own : Bool) (m x : Nat) (h : Option Int) :
    (s.evaluate p own m x h).readings = s.readings := by
  obtain ⟨_, _, _, _, h⟩ := s.evaluate_frame p own m x h; rw [h]
@[simp] theorem State.evaluate_points (s : State) (p : SetIx) (own : Bool) (m x : Nat) (h : Option Int) :
    (s.evaluate p own m x h).points = s.points := by
  obtain ⟨_, _, _, _, h⟩ := s.evaluate_frame p own m x h; rw [h]
@[simp] theorem State.evaluate_sched (s : State) (p : SetIx) (own : Bool) (m x : Nat) (h : Option Int) :
    (s.evaluate p own m x h).sched = s.sched := by
  obtain ⟨_, _, _, _, h⟩ := s.evaluate_frame p own m x h; rw [h]
@[simp] theorem State.evaluate_link (s : State) (p : SetIx) (own : Bool) (m x : Nat) (h : Option Int) :
    (s.evaluate p own m x h).link = s.link := by
  obtain ⟨_, _, _, _, h⟩ := s.evaluate_frame p own m x h; rw [h]
@[simp] theorem State.evaluate_console (s : State) (p : SetIx) (own : Bool) (m x : Nat) (h : Option Int) :
    (s.evaluate p own m x h).console = s.console := by
  obtain ⟨_, _, _, _, h⟩ := s.evaluate_frame p own m x h; rw [h]
@[simp] theorem State.evaluate_exporter (s : State) (p : SetIx) (own : Bool) (m x : Nat) (h : Option Int) :
    (s.evaluate p own m x h).exporter = s.exporter := by
  obtain ⟨_, _, _, _, h⟩ := s.evaluate_frame p own m x h; rw [h]
@[simp] theorem State.evaluate_standby (s : State) (p : SetIx) (own : Bool) (m x : Nat) (h : Option Int) :
    (s.evaluate p own m x h).standby = s.standby := by
  obtain ⟨_, _, _, _, h⟩ := s.evaluate_frame p own m x h; rw [h]
@[simp] theorem State.evaluate_pending (s : State) (p : SetIx) (own : Bool) (m x : Nat) (h : Option Int) :
    (s.evaluate p own m x h).pending = s.pending := by
  obtain ⟨_, _, _, _, h⟩ := s.evaluate_frame p own m x h; rw [h]

@[simp] theorem State.couple_hold (s : State) (st : Stage) (p : SetIx) (v : Option Nat) :
    (s.couple st p v).hold = s.hold := by
  obtain ⟨_, _, h⟩ := s.couple_frame st p v; rw [h]
@[simp] theorem State.couple_straps (s : State) (st : Stage) (p : SetIx) (v : Option Nat) :
    (s.couple st p v).straps = s.straps := by
  obtain ⟨_, _, h⟩ := s.couple_frame st p v; rw [h]
@[simp] theorem State.couple_now (s : State) (st : Stage) (p : SetIx) (v : Option Nat) :
    (s.couple st p v).now = s.now := by
  obtain ⟨_, _, h⟩ := s.couple_frame st p v; rw [h]
@[simp] theorem State.couple_freshAt (s : State) (st : Stage) (p : SetIx) (v : Option Nat) :
    (s.couple st p v).freshAt = s.freshAt := by
  obtain ⟨_, _, h⟩ := s.couple_frame st p v; rw [h]
@[simp] theorem State.couple_meter (s : State) (st : Stage) (p : SetIx) (v : Option Nat) :
    (s.couple st p v).meter = s.meter := by
  obtain ⟨_, _, h⟩ := s.couple_frame st p v; rw [h]
@[simp] theorem State.couple_readings (s : State) (st : Stage) (p : SetIx) (v : Option Nat) :
    (s.couple st p v).readings = s.readings := by
  obtain ⟨_, _, h⟩ := s.couple_frame st p v; rw [h]
@[simp] theorem State.couple_points (s : State) (st : Stage) (p : SetIx) (v : Option Nat) :
    (s.couple st p v).points = s.points := by
  obtain ⟨_, _, h⟩ := s.couple_frame st p v; rw [h]
@[simp] theorem State.couple_sched (s : State) (st : Stage) (p : SetIx) (v : Option Nat) :
    (s.couple st p v).sched = s.sched := by
  obtain ⟨_, _, h⟩ := s.couple_frame st p v; rw [h]
@[simp] theorem State.couple_link (s : State) (st : Stage) (p : SetIx) (v : Option Nat) :
    (s.couple st p v).link = s.link := by
  obtain ⟨_, _, h⟩ := s.couple_frame st p v; rw [h]
@[simp] theorem State.couple_console (s : State) (st : Stage) (p : SetIx) (v : Option Nat) :
    (s.couple st p v).console = s.console := by
  obtain ⟨_, _, h⟩ := s.couple_frame st p v; rw [h]
@[simp] theorem State.couple_reports (s : State) (st : Stage) (p : SetIx) (v : Option Nat) :
    (s.couple st p v).reports = s.reports := by
  obtain ⟨_, _, h⟩ := s.couple_frame st p v; rw [h]
@[simp] theorem State.couple_exporter (s : State) (st : Stage) (p : SetIx) (v : Option Nat) :
    (s.couple st p v).exporter = s.exporter := by
  obtain ⟨_, _, h⟩ := s.couple_frame st p v; rw [h]
@[simp] theorem State.couple_standby (s : State) (st : Stage) (p : SetIx) (v : Option Nat) :
    (s.couple st p v).standby = s.standby := by
  obtain ⟨_, _, h⟩ := s.couple_frame st p v; rw [h]
@[simp] theorem State.couple_pending (s : State) (st : Stage) (p : SetIx) (v : Option Nat) :
    (s.couple st p v).pending = s.pending := by
  obtain ⟨_, _, h⟩ := s.couple_frame st p v; rw [h]

@[simp] theorem State.clearColumn_hold (s : State) (p : SetIx) : (s.clearColumn p).hold = s.hold := by
  obtain ⟨_, _, h⟩ := s.clearColumn_frame p; rw [h]
@[simp] theorem State.clearColumn_straps (s : State) (p : SetIx) : (s.clearColumn p).straps = s.straps := by
  obtain ⟨_, _, h⟩ := s.clearColumn_frame p; rw [h]
@[simp] theorem State.clearColumn_now (s : State) (p : SetIx) : (s.clearColumn p).now = s.now := by
  obtain ⟨_, _, h⟩ := s.clearColumn_frame p; rw [h]
@[simp] theorem State.clearColumn_freshAt (s : State) (p : SetIx) :
    (s.clearColumn p).freshAt = s.freshAt := by
  obtain ⟨_, _, h⟩ := s.clearColumn_frame p; rw [h]
@[simp] theorem State.clearColumn_meter (s : State) (p : SetIx) : (s.clearColumn p).meter = s.meter := by
  obtain ⟨_, _, h⟩ := s.clearColumn_frame p; rw [h]
@[simp] theorem State.clearColumn_readings (s : State) (p : SetIx) :
    (s.clearColumn p).readings = s.readings := by
  obtain ⟨_, _, h⟩ := s.clearColumn_frame p; rw [h]
@[simp] theorem State.clearColumn_points (s : State) (p : SetIx) : (s.clearColumn p).points = s.points := by
  obtain ⟨_, _, h⟩ := s.clearColumn_frame p; rw [h]
@[simp] theorem State.clearColumn_sched (s : State) (p : SetIx) : (s.clearColumn p).sched = s.sched := by
  obtain ⟨_, _, h⟩ := s.clearColumn_frame p; rw [h]
@[simp] theorem State.clearColumn_link (s : State) (p : SetIx) : (s.clearColumn p).link = s.link := by
  obtain ⟨_, _, h⟩ := s.clearColumn_frame p; rw [h]
@[simp] theorem State.clearColumn_console (s : State) (p : SetIx) :
    (s.clearColumn p).console = s.console := by
  obtain ⟨_, _, h⟩ := s.clearColumn_frame p; rw [h]
@[simp] theorem State.clearColumn_reports (s : State) (p : SetIx) :
    (s.clearColumn p).reports = s.reports := by
  obtain ⟨_, _, h⟩ := s.clearColumn_frame p; rw [h]
@[simp] theorem State.clearColumn_exporter (s : State) (p : SetIx) :
    (s.clearColumn p).exporter = s.exporter := by
  obtain ⟨_, _, h⟩ := s.clearColumn_frame p; rw [h]
@[simp] theorem State.clearColumn_standby (s : State) (p : SetIx) :
    (s.clearColumn p).standby = s.standby := by
  obtain ⟨_, _, h⟩ := s.clearColumn_frame p; rw [h]
@[simp] theorem State.clearColumn_pending (s : State) (p : SetIx) :
    (s.clearColumn p).pending = s.pending := by
  obtain ⟨_, _, h⟩ := s.clearColumn_frame p; rw [h]

@[simp] theorem State.judgeDark_hold (s : State) : s.judgeDark.hold = s.hold := by
  obtain ⟨_, h⟩ := s.judgeDark_frame; rw [h]
@[simp] theorem State.judgeDark_straps (s : State) : s.judgeDark.straps = s.straps := by
  obtain ⟨_, h⟩ := s.judgeDark_frame; rw [h]
@[simp] theorem State.judgeDark_now (s : State) : s.judgeDark.now = s.now := by
  obtain ⟨_, h⟩ := s.judgeDark_frame; rw [h]
@[simp] theorem State.judgeDark_freshAt (s : State) : s.judgeDark.freshAt = s.freshAt := by
  obtain ⟨_, h⟩ := s.judgeDark_frame; rw [h]
@[simp] theorem State.judgeDark_meter (s : State) : s.judgeDark.meter = s.meter := by
  obtain ⟨_, h⟩ := s.judgeDark_frame; rw [h]
@[simp] theorem State.judgeDark_readings (s : State) : s.judgeDark.readings = s.readings := by
  obtain ⟨_, h⟩ := s.judgeDark_frame; rw [h]
@[simp] theorem State.judgeDark_points (s : State) : s.judgeDark.points = s.points := by
  obtain ⟨_, h⟩ := s.judgeDark_frame; rw [h]
@[simp] theorem State.judgeDark_sched (s : State) : s.judgeDark.sched = s.sched := by
  obtain ⟨_, h⟩ := s.judgeDark_frame; rw [h]
@[simp] theorem State.judgeDark_control (s : State) : s.judgeDark.control = s.control := by
  obtain ⟨_, h⟩ := s.judgeDark_frame; rw [h]
@[simp] theorem State.judgeDark_engines (s : State) : s.judgeDark.engines = s.engines := by
  obtain ⟨_, h⟩ := s.judgeDark_frame; rw [h]
@[simp] theorem State.judgeDark_link (s : State) : s.judgeDark.link = s.link := by
  obtain ⟨_, h⟩ := s.judgeDark_frame; rw [h]
@[simp] theorem State.judgeDark_console (s : State) : s.judgeDark.console = s.console := by
  obtain ⟨_, h⟩ := s.judgeDark_frame; rw [h]
@[simp] theorem State.judgeDark_reports (s : State) : s.judgeDark.reports = s.reports := by
  obtain ⟨_, h⟩ := s.judgeDark_frame; rw [h]
@[simp] theorem State.judgeDark_exporter (s : State) : s.judgeDark.exporter = s.exporter := by
  obtain ⟨_, h⟩ := s.judgeDark_frame; rw [h]
@[simp] theorem State.judgeDark_pending (s : State) : s.judgeDark.pending = s.pending := by
  obtain ⟨_, h⟩ := s.judgeDark_frame; rw [h]

@[simp] theorem State.restartDark_hold (s : State) : s.restartDark.hold = s.hold := by
  obtain ⟨_, h⟩ := s.restartDark_frame; rw [h]
@[simp] theorem State.restartDark_straps (s : State) : s.restartDark.straps = s.straps := by
  obtain ⟨_, h⟩ := s.restartDark_frame; rw [h]
@[simp] theorem State.restartDark_now (s : State) : s.restartDark.now = s.now := by
  obtain ⟨_, h⟩ := s.restartDark_frame; rw [h]
@[simp] theorem State.restartDark_freshAt (s : State) : s.restartDark.freshAt = s.freshAt := by
  obtain ⟨_, h⟩ := s.restartDark_frame; rw [h]
@[simp] theorem State.restartDark_meter (s : State) : s.restartDark.meter = s.meter := by
  obtain ⟨_, h⟩ := s.restartDark_frame; rw [h]
@[simp] theorem State.restartDark_readings (s : State) : s.restartDark.readings = s.readings := by
  obtain ⟨_, h⟩ := s.restartDark_frame; rw [h]
@[simp] theorem State.restartDark_points (s : State) : s.restartDark.points = s.points := by
  obtain ⟨_, h⟩ := s.restartDark_frame; rw [h]
@[simp] theorem State.restartDark_sched (s : State) : s.restartDark.sched = s.sched := by
  obtain ⟨_, h⟩ := s.restartDark_frame; rw [h]
@[simp] theorem State.restartDark_control (s : State) : s.restartDark.control = s.control := by
  obtain ⟨_, h⟩ := s.restartDark_frame; rw [h]
@[simp] theorem State.restartDark_engines (s : State) : s.restartDark.engines = s.engines := by
  obtain ⟨_, h⟩ := s.restartDark_frame; rw [h]
@[simp] theorem State.restartDark_link (s : State) : s.restartDark.link = s.link := by
  obtain ⟨_, h⟩ := s.restartDark_frame; rw [h]
@[simp] theorem State.restartDark_console (s : State) : s.restartDark.console = s.console := by
  obtain ⟨_, h⟩ := s.restartDark_frame; rw [h]
@[simp] theorem State.restartDark_reports (s : State) : s.restartDark.reports = s.reports := by
  obtain ⟨_, h⟩ := s.restartDark_frame; rw [h]
@[simp] theorem State.restartDark_exporter (s : State) : s.restartDark.exporter = s.exporter := by
  obtain ⟨_, h⟩ := s.restartDark_frame; rw [h]
@[simp] theorem State.restartDark_pending (s : State) : s.restartDark.pending = s.pending := by
  obtain ⟨_, h⟩ := s.restartDark_frame; rw [h]

@[simp] theorem State.excessTold_hold (s : State) (p : SetIx) : (s.excessTold p).hold = s.hold := by
  obtain ⟨_, _, _, h⟩ := s.excessTold_frame p; rw [h]
@[simp] theorem State.excessTold_straps (s : State) (p : SetIx) : (s.excessTold p).straps = s.straps := by
  obtain ⟨_, _, _, h⟩ := s.excessTold_frame p; rw [h]
@[simp] theorem State.excessTold_now (s : State) (p : SetIx) : (s.excessTold p).now = s.now := by
  obtain ⟨_, _, _, h⟩ := s.excessTold_frame p; rw [h]
@[simp] theorem State.excessTold_freshAt (s : State) (p : SetIx) : (s.excessTold p).freshAt = s.freshAt := by
  obtain ⟨_, _, _, h⟩ := s.excessTold_frame p; rw [h]
@[simp] theorem State.excessTold_meter (s : State) (p : SetIx) : (s.excessTold p).meter = s.meter := by
  obtain ⟨_, _, _, h⟩ := s.excessTold_frame p; rw [h]
@[simp] theorem State.excessTold_readings (s : State) (p : SetIx) :
    (s.excessTold p).readings = s.readings := by
  obtain ⟨_, _, _, h⟩ := s.excessTold_frame p; rw [h]
@[simp] theorem State.excessTold_points (s : State) (p : SetIx) : (s.excessTold p).points = s.points := by
  obtain ⟨_, _, _, h⟩ := s.excessTold_frame p; rw [h]
@[simp] theorem State.excessTold_sched (s : State) (p : SetIx) : (s.excessTold p).sched = s.sched := by
  obtain ⟨_, _, _, h⟩ := s.excessTold_frame p; rw [h]
@[simp] theorem State.excessTold_control (s : State) (p : SetIx) : (s.excessTold p).control = s.control := by
  obtain ⟨_, _, _, h⟩ := s.excessTold_frame p; rw [h]
@[simp] theorem State.excessTold_link (s : State) (p : SetIx) : (s.excessTold p).link = s.link := by
  obtain ⟨_, _, _, h⟩ := s.excessTold_frame p; rw [h]
@[simp] theorem State.excessTold_console (s : State) (p : SetIx) : (s.excessTold p).console = s.console := by
  obtain ⟨_, _, _, h⟩ := s.excessTold_frame p; rw [h]
@[simp] theorem State.excessTold_exporter (s : State) (p : SetIx) :
    (s.excessTold p).exporter = s.exporter := by
  obtain ⟨_, _, _, h⟩ := s.excessTold_frame p; rw [h]
@[simp] theorem State.excessTold_pending (s : State) (p : SetIx) : (s.excessTold p).pending = s.pending := by
  obtain ⟨_, _, _, h⟩ := s.excessTold_frame p; rw [h]

@[simp] theorem State.stageL1_hold (s : State) (st : Stage) (v : Option Nat) :
    (s.stageL1 st v).hold = s.hold := by
  obtain ⟨_, _, _, h⟩ := s.stageL1_frame st v; rw [h]
@[simp] theorem State.stageL1_straps (s : State) (st : Stage) (v : Option Nat) :
    (s.stageL1 st v).straps = s.straps := by
  obtain ⟨_, _, _, h⟩ := s.stageL1_frame st v; rw [h]
@[simp] theorem State.stageL1_now (s : State) (st : Stage) (v : Option Nat) :
    (s.stageL1 st v).now = s.now := by
  obtain ⟨_, _, _, h⟩ := s.stageL1_frame st v; rw [h]
@[simp] theorem State.stageL1_freshAt (s : State) (st : Stage) (v : Option Nat) :
    (s.stageL1 st v).freshAt = s.freshAt := by
  obtain ⟨_, _, _, h⟩ := s.stageL1_frame st v; rw [h]
@[simp] theorem State.stageL1_meter (s : State) (st : Stage) (v : Option Nat) :
    (s.stageL1 st v).meter = s.meter := by
  obtain ⟨_, _, _, h⟩ := s.stageL1_frame st v; rw [h]
@[simp] theorem State.stageL1_readings (s : State) (st : Stage) (v : Option Nat) :
    (s.stageL1 st v).readings = s.readings := by
  obtain ⟨_, _, _, h⟩ := s.stageL1_frame st v; rw [h]
@[simp] theorem State.stageL1_points (s : State) (st : Stage) (v : Option Nat) :
    (s.stageL1 st v).points = s.points := by
  obtain ⟨_, _, _, h⟩ := s.stageL1_frame st v; rw [h]
@[simp] theorem State.stageL1_sched (s : State) (st : Stage) (v : Option Nat) :
    (s.stageL1 st v).sched = s.sched := by
  obtain ⟨_, _, _, h⟩ := s.stageL1_frame st v; rw [h]
@[simp] theorem State.stageL1_control (s : State) (st : Stage) (v : Option Nat) :
    (s.stageL1 st v).control = s.control := by
  obtain ⟨_, _, _, h⟩ := s.stageL1_frame st v; rw [h]
@[simp] theorem State.stageL1_link (s : State) (st : Stage) (v : Option Nat) :
    (s.stageL1 st v).link = s.link := by
  obtain ⟨_, _, _, h⟩ := s.stageL1_frame st v; rw [h]
@[simp] theorem State.stageL1_console (s : State) (st : Stage) (v : Option Nat) :
    (s.stageL1 st v).console = s.console := by
  obtain ⟨_, _, _, h⟩ := s.stageL1_frame st v; rw [h]
@[simp] theorem State.stageL1_exporter (s : State) (st : Stage) (v : Option Nat) :
    (s.stageL1 st v).exporter = s.exporter := by
  obtain ⟨_, _, _, h⟩ := s.stageL1_frame st v; rw [h]
@[simp] theorem State.stageL1_pending (s : State) (st : Stage) (v : Option Nat) :
    (s.stageL1 st v).pending = s.pending := by
  obtain ⟨_, _, _, h⟩ := s.stageL1_frame st v; rw [h]

@[simp] theorem State.stageStale_hold (s : State) (st : Stage) : (s.stageStale st).hold = s.hold := by
  obtain ⟨_, h⟩ := s.stageStale_frame st; rw [h]
@[simp] theorem State.stageStale_straps (s : State) (st : Stage) : (s.stageStale st).straps = s.straps := by
  obtain ⟨_, h⟩ := s.stageStale_frame st; rw [h]
@[simp] theorem State.stageStale_now (s : State) (st : Stage) : (s.stageStale st).now = s.now := by
  obtain ⟨_, h⟩ := s.stageStale_frame st; rw [h]
@[simp] theorem State.stageStale_freshAt (s : State) (st : Stage) :
    (s.stageStale st).freshAt = s.freshAt := by
  obtain ⟨_, h⟩ := s.stageStale_frame st; rw [h]
@[simp] theorem State.stageStale_meter (s : State) (st : Stage) : (s.stageStale st).meter = s.meter := by
  obtain ⟨_, h⟩ := s.stageStale_frame st; rw [h]
@[simp] theorem State.stageStale_readings (s : State) (st : Stage) :
    (s.stageStale st).readings = s.readings := by
  obtain ⟨_, h⟩ := s.stageStale_frame st; rw [h]
@[simp] theorem State.stageStale_points (s : State) (st : Stage) : (s.stageStale st).points = s.points := by
  obtain ⟨_, h⟩ := s.stageStale_frame st; rw [h]
@[simp] theorem State.stageStale_sched (s : State) (st : Stage) : (s.stageStale st).sched = s.sched := by
  obtain ⟨_, h⟩ := s.stageStale_frame st; rw [h]
@[simp] theorem State.stageStale_control (s : State) (st : Stage) :
    (s.stageStale st).control = s.control := by
  obtain ⟨_, h⟩ := s.stageStale_frame st; rw [h]
@[simp] theorem State.stageStale_engines (s : State) (st : Stage) :
    (s.stageStale st).engines = s.engines := by
  obtain ⟨_, h⟩ := s.stageStale_frame st; rw [h]
@[simp] theorem State.stageStale_link (s : State) (st : Stage) : (s.stageStale st).link = s.link := by
  obtain ⟨_, h⟩ := s.stageStale_frame st; rw [h]
@[simp] theorem State.stageStale_console (s : State) (st : Stage) :
    (s.stageStale st).console = s.console := by
  obtain ⟨_, h⟩ := s.stageStale_frame st; rw [h]
@[simp] theorem State.stageStale_reports (s : State) (st : Stage) :
    (s.stageStale st).reports = s.reports := by
  obtain ⟨_, h⟩ := s.stageStale_frame st; rw [h]
@[simp] theorem State.stageStale_exporter (s : State) (st : Stage) :
    (s.stageStale st).exporter = s.exporter := by
  obtain ⟨_, h⟩ := s.stageStale_frame st; rw [h]
@[simp] theorem State.stageStale_pending (s : State) (st : Stage) :
    (s.stageStale st).pending = s.pending := by
  obtain ⟨_, h⟩ := s.stageStale_frame st; rw [h]

@[simp] theorem State.stageFresh_hold (s : State) (st : Stage) : (s.stageFresh st).hold = s.hold := by
  obtain ⟨_, h⟩ := s.stageFresh_frame st; rw [h]
@[simp] theorem State.stageFresh_straps (s : State) (st : Stage) : (s.stageFresh st).straps = s.straps := by
  obtain ⟨_, h⟩ := s.stageFresh_frame st; rw [h]
@[simp] theorem State.stageFresh_now (s : State) (st : Stage) : (s.stageFresh st).now = s.now := by
  obtain ⟨_, h⟩ := s.stageFresh_frame st; rw [h]
@[simp] theorem State.stageFresh_freshAt (s : State) (st : Stage) :
    (s.stageFresh st).freshAt = s.freshAt := by
  obtain ⟨_, h⟩ := s.stageFresh_frame st; rw [h]
@[simp] theorem State.stageFresh_meter (s : State) (st : Stage) : (s.stageFresh st).meter = s.meter := by
  obtain ⟨_, h⟩ := s.stageFresh_frame st; rw [h]
@[simp] theorem State.stageFresh_readings (s : State) (st : Stage) :
    (s.stageFresh st).readings = s.readings := by
  obtain ⟨_, h⟩ := s.stageFresh_frame st; rw [h]
@[simp] theorem State.stageFresh_points (s : State) (st : Stage) : (s.stageFresh st).points = s.points := by
  obtain ⟨_, h⟩ := s.stageFresh_frame st; rw [h]
@[simp] theorem State.stageFresh_sched (s : State) (st : Stage) : (s.stageFresh st).sched = s.sched := by
  obtain ⟨_, h⟩ := s.stageFresh_frame st; rw [h]
@[simp] theorem State.stageFresh_control (s : State) (st : Stage) :
    (s.stageFresh st).control = s.control := by
  obtain ⟨_, h⟩ := s.stageFresh_frame st; rw [h]
@[simp] theorem State.stageFresh_engines (s : State) (st : Stage) :
    (s.stageFresh st).engines = s.engines := by
  obtain ⟨_, h⟩ := s.stageFresh_frame st; rw [h]
@[simp] theorem State.stageFresh_link (s : State) (st : Stage) : (s.stageFresh st).link = s.link := by
  obtain ⟨_, h⟩ := s.stageFresh_frame st; rw [h]
@[simp] theorem State.stageFresh_console (s : State) (st : Stage) :
    (s.stageFresh st).console = s.console := by
  obtain ⟨_, h⟩ := s.stageFresh_frame st; rw [h]
@[simp] theorem State.stageFresh_reports (s : State) (st : Stage) :
    (s.stageFresh st).reports = s.reports := by
  obtain ⟨_, h⟩ := s.stageFresh_frame st; rw [h]
@[simp] theorem State.stageFresh_exporter (s : State) (st : Stage) :
    (s.stageFresh st).exporter = s.exporter := by
  obtain ⟨_, h⟩ := s.stageFresh_frame st; rw [h]
@[simp] theorem State.stageFresh_pending (s : State) (st : Stage) :
    (s.stageFresh st).pending = s.pending := by
  obtain ⟨_, h⟩ := s.stageFresh_frame st; rw [h]

@[simp] theorem State.metersChanged_hold (s : State) (b : List (Option PointId)) :
    (s.metersChanged b).hold = s.hold := by
  obtain ⟨_, h⟩ := s.metersChanged_frame b; rw [h]
@[simp] theorem State.metersChanged_straps (s : State) (b : List (Option PointId)) :
    (s.metersChanged b).straps = s.straps := by
  obtain ⟨_, h⟩ := s.metersChanged_frame b; rw [h]
@[simp] theorem State.metersChanged_now (s : State) (b : List (Option PointId)) :
    (s.metersChanged b).now = s.now := by
  obtain ⟨_, h⟩ := s.metersChanged_frame b; rw [h]
@[simp] theorem State.metersChanged_freshAt (s : State) (b : List (Option PointId)) :
    (s.metersChanged b).freshAt = s.freshAt := by
  obtain ⟨_, h⟩ := s.metersChanged_frame b; rw [h]
@[simp] theorem State.metersChanged_meter (s : State) (b : List (Option PointId)) :
    (s.metersChanged b).meter = s.meter := by
  obtain ⟨_, h⟩ := s.metersChanged_frame b; rw [h]
@[simp] theorem State.metersChanged_readings (s : State) (b : List (Option PointId)) :
    (s.metersChanged b).readings = s.readings := by
  obtain ⟨_, h⟩ := s.metersChanged_frame b; rw [h]
@[simp] theorem State.metersChanged_points (s : State) (b : List (Option PointId)) :
    (s.metersChanged b).points = s.points := by
  obtain ⟨_, h⟩ := s.metersChanged_frame b; rw [h]
@[simp] theorem State.metersChanged_sched (s : State) (b : List (Option PointId)) :
    (s.metersChanged b).sched = s.sched := by
  obtain ⟨_, h⟩ := s.metersChanged_frame b; rw [h]
@[simp] theorem State.metersChanged_control (s : State) (b : List (Option PointId)) :
    (s.metersChanged b).control = s.control := by
  obtain ⟨_, h⟩ := s.metersChanged_frame b; rw [h]
@[simp] theorem State.metersChanged_engines (s : State) (b : List (Option PointId)) :
    (s.metersChanged b).engines = s.engines := by
  obtain ⟨_, h⟩ := s.metersChanged_frame b; rw [h]
@[simp] theorem State.metersChanged_link (s : State) (b : List (Option PointId)) :
    (s.metersChanged b).link = s.link := by
  obtain ⟨_, h⟩ := s.metersChanged_frame b; rw [h]
@[simp] theorem State.metersChanged_console (s : State) (b : List (Option PointId)) :
    (s.metersChanged b).console = s.console := by
  obtain ⟨_, h⟩ := s.metersChanged_frame b; rw [h]
@[simp] theorem State.metersChanged_reports (s : State) (b : List (Option PointId)) :
    (s.metersChanged b).reports = s.reports := by
  obtain ⟨_, h⟩ := s.metersChanged_frame b; rw [h]
@[simp] theorem State.metersChanged_exporter (s : State) (b : List (Option PointId)) :
    (s.metersChanged b).exporter = s.exporter := by
  obtain ⟨_, h⟩ := s.metersChanged_frame b; rw [h]
@[simp] theorem State.metersChanged_pending (s : State) (b : List (Option PointId)) :
    (s.metersChanged b).pending = s.pending := by
  obtain ⟨_, h⟩ := s.metersChanged_frame b; rw [h]

@[simp] theorem State.setDark_hold (s : State) (en : Bool) (t d : Nat) :
    (s.setDark en t d).hold = s.hold := by
  obtain ⟨_, _, _, h⟩ := s.setDark_frame en t d; rw [h]
@[simp] theorem State.setDark_straps (s : State) (en : Bool) (t d : Nat) :
    (s.setDark en t d).straps = s.straps := by
  obtain ⟨_, _, _, h⟩ := s.setDark_frame en t d; rw [h]
@[simp] theorem State.setDark_now (s : State) (en : Bool) (t d : Nat) : (s.setDark en t d).now = s.now := by
  obtain ⟨_, _, _, h⟩ := s.setDark_frame en t d; rw [h]
@[simp] theorem State.setDark_freshAt (s : State) (en : Bool) (t d : Nat) :
    (s.setDark en t d).freshAt = s.freshAt := by
  obtain ⟨_, _, _, h⟩ := s.setDark_frame en t d; rw [h]
@[simp] theorem State.setDark_meter (s : State) (en : Bool) (t d : Nat) :
    (s.setDark en t d).meter = s.meter := by
  obtain ⟨_, _, _, h⟩ := s.setDark_frame en t d; rw [h]
@[simp] theorem State.setDark_readings (s : State) (en : Bool) (t d : Nat) :
    (s.setDark en t d).readings = s.readings := by
  obtain ⟨_, _, _, h⟩ := s.setDark_frame en t d; rw [h]
@[simp] theorem State.setDark_points (s : State) (en : Bool) (t d : Nat) :
    (s.setDark en t d).points = s.points := by
  obtain ⟨_, _, _, h⟩ := s.setDark_frame en t d; rw [h]
@[simp] theorem State.setDark_sched (s : State) (en : Bool) (t d : Nat) :
    (s.setDark en t d).sched = s.sched := by
  obtain ⟨_, _, _, h⟩ := s.setDark_frame en t d; rw [h]
@[simp] theorem State.setDark_control (s : State) (en : Bool) (t d : Nat) :
    (s.setDark en t d).control = s.control := by
  obtain ⟨_, _, _, h⟩ := s.setDark_frame en t d; rw [h]
@[simp] theorem State.setDark_link (s : State) (en : Bool) (t d : Nat) :
    (s.setDark en t d).link = s.link := by
  obtain ⟨_, _, _, h⟩ := s.setDark_frame en t d; rw [h]
@[simp] theorem State.setDark_console (s : State) (en : Bool) (t d : Nat) :
    (s.setDark en t d).console = s.console := by
  obtain ⟨_, _, _, h⟩ := s.setDark_frame en t d; rw [h]
@[simp] theorem State.setDark_exporter (s : State) (en : Bool) (t d : Nat) :
    (s.setDark en t d).exporter = s.exporter := by
  obtain ⟨_, _, _, h⟩ := s.setDark_frame en t d; rw [h]
@[simp] theorem State.setDark_pending (s : State) (en : Bool) (t d : Nat) :
    (s.setDark en t d).pending = s.pending := by
  obtain ⟨_, _, _, h⟩ := s.setDark_frame en t d; rw [h]

@[simp] theorem State.enforceStandby_hold (s : State) : s.enforceStandby.hold = s.hold := by
  obtain ⟨_, _, _, h⟩ := s.enforceStandby_frame; rw [h]
@[simp] theorem State.enforceStandby_straps (s : State) : s.enforceStandby.straps = s.straps := by
  obtain ⟨_, _, _, h⟩ := s.enforceStandby_frame; rw [h]
@[simp] theorem State.enforceStandby_now (s : State) : s.enforceStandby.now = s.now := by
  obtain ⟨_, _, _, h⟩ := s.enforceStandby_frame; rw [h]
@[simp] theorem State.enforceStandby_freshAt (s : State) : s.enforceStandby.freshAt = s.freshAt := by
  obtain ⟨_, _, _, h⟩ := s.enforceStandby_frame; rw [h]
@[simp] theorem State.enforceStandby_meter (s : State) : s.enforceStandby.meter = s.meter := by
  obtain ⟨_, _, _, h⟩ := s.enforceStandby_frame; rw [h]
@[simp] theorem State.enforceStandby_readings (s : State) : s.enforceStandby.readings = s.readings := by
  obtain ⟨_, _, _, h⟩ := s.enforceStandby_frame; rw [h]
@[simp] theorem State.enforceStandby_points (s : State) : s.enforceStandby.points = s.points := by
  obtain ⟨_, _, _, h⟩ := s.enforceStandby_frame; rw [h]
@[simp] theorem State.enforceStandby_sched (s : State) : s.enforceStandby.sched = s.sched := by
  obtain ⟨_, _, _, h⟩ := s.enforceStandby_frame; rw [h]
@[simp] theorem State.enforceStandby_control (s : State) : s.enforceStandby.control = s.control := by
  obtain ⟨_, _, _, h⟩ := s.enforceStandby_frame; rw [h]
@[simp] theorem State.enforceStandby_link (s : State) : s.enforceStandby.link = s.link := by
  obtain ⟨_, _, _, h⟩ := s.enforceStandby_frame; rw [h]
@[simp] theorem State.enforceStandby_console (s : State) : s.enforceStandby.console = s.console := by
  obtain ⟨_, _, _, h⟩ := s.enforceStandby_frame; rw [h]
@[simp] theorem State.enforceStandby_exporter (s : State) : s.enforceStandby.exporter = s.exporter := by
  obtain ⟨_, _, _, h⟩ := s.enforceStandby_frame; rw [h]
@[simp] theorem State.enforceStandby_pending (s : State) : s.enforceStandby.pending = s.pending := by
  obtain ⟨_, _, _, h⟩ := s.enforceStandby_frame; rw [h]

@[simp] theorem State.tableChanged_hold (s : State) (b : State) (p : SetIx) :
    (s.tableChanged b p).hold = s.hold := by
  obtain ⟨_, _, _, h⟩ := s.tableChanged_frame b p; rw [h]
@[simp] theorem State.tableChanged_straps (s : State) (b : State) (p : SetIx) :
    (s.tableChanged b p).straps = s.straps := by
  obtain ⟨_, _, _, h⟩ := s.tableChanged_frame b p; rw [h]
@[simp] theorem State.tableChanged_now (s : State) (b : State) (p : SetIx) :
    (s.tableChanged b p).now = s.now := by
  obtain ⟨_, _, _, h⟩ := s.tableChanged_frame b p; rw [h]
@[simp] theorem State.tableChanged_freshAt (s : State) (b : State) (p : SetIx) :
    (s.tableChanged b p).freshAt = s.freshAt := by
  obtain ⟨_, _, _, h⟩ := s.tableChanged_frame b p; rw [h]
@[simp] theorem State.tableChanged_meter (s : State) (b : State) (p : SetIx) :
    (s.tableChanged b p).meter = s.meter := by
  obtain ⟨_, _, _, h⟩ := s.tableChanged_frame b p; rw [h]
@[simp] theorem State.tableChanged_readings (s : State) (b : State) (p : SetIx) :
    (s.tableChanged b p).readings = s.readings := by
  obtain ⟨_, _, _, h⟩ := s.tableChanged_frame b p; rw [h]
@[simp] theorem State.tableChanged_points (s : State) (b : State) (p : SetIx) :
    (s.tableChanged b p).points = s.points := by
  obtain ⟨_, _, _, h⟩ := s.tableChanged_frame b p; rw [h]
@[simp] theorem State.tableChanged_sched (s : State) (b : State) (p : SetIx) :
    (s.tableChanged b p).sched = s.sched := by
  obtain ⟨_, _, _, h⟩ := s.tableChanged_frame b p; rw [h]
@[simp] theorem State.tableChanged_link (s : State) (b : State) (p : SetIx) :
    (s.tableChanged b p).link = s.link := by
  obtain ⟨_, _, _, h⟩ := s.tableChanged_frame b p; rw [h]
@[simp] theorem State.tableChanged_console (s : State) (b : State) (p : SetIx) :
    (s.tableChanged b p).console = s.console := by
  obtain ⟨_, _, _, h⟩ := s.tableChanged_frame b p; rw [h]
@[simp] theorem State.tableChanged_reports (s : State) (b : State) (p : SetIx) :
    (s.tableChanged b p).reports = s.reports := by
  obtain ⟨_, _, _, h⟩ := s.tableChanged_frame b p; rw [h]
@[simp] theorem State.tableChanged_exporter (s : State) (b : State) (p : SetIx) :
    (s.tableChanged b p).exporter = s.exporter := by
  obtain ⟨_, _, _, h⟩ := s.tableChanged_frame b p; rw [h]
@[simp] theorem State.tableChanged_pending (s : State) (b : State) (p : SetIx) :
    (s.tableChanged b p).pending = s.pending := by
  obtain ⟨_, _, _, h⟩ := s.tableChanged_frame b p; rw [h]

@[simp] theorem State.permissionClose_hold (s : State) (x : Schedule) :
    (s.permissionClose x).hold = s.hold := by
  obtain ⟨_, _, h⟩ := s.permissionClose_frame x; rw [h]
@[simp] theorem State.permissionClose_straps (s : State) (x : Schedule) :
    (s.permissionClose x).straps = s.straps := by
  obtain ⟨_, _, h⟩ := s.permissionClose_frame x; rw [h]
@[simp] theorem State.permissionClose_now (s : State) (x : Schedule) : (s.permissionClose x).now = s.now := by
  obtain ⟨_, _, h⟩ := s.permissionClose_frame x; rw [h]
@[simp] theorem State.permissionClose_freshAt (s : State) (x : Schedule) :
    (s.permissionClose x).freshAt = s.freshAt := by
  obtain ⟨_, _, h⟩ := s.permissionClose_frame x; rw [h]
@[simp] theorem State.permissionClose_meter (s : State) (x : Schedule) :
    (s.permissionClose x).meter = s.meter := by
  obtain ⟨_, _, h⟩ := s.permissionClose_frame x; rw [h]
@[simp] theorem State.permissionClose_readings (s : State) (x : Schedule) :
    (s.permissionClose x).readings = s.readings := by
  obtain ⟨_, _, h⟩ := s.permissionClose_frame x; rw [h]
@[simp] theorem State.permissionClose_points (s : State) (x : Schedule) :
    (s.permissionClose x).points = s.points := by
  obtain ⟨_, _, h⟩ := s.permissionClose_frame x; rw [h]
@[simp] theorem State.permissionClose_sched (s : State) (x : Schedule) :
    (s.permissionClose x).sched = s.sched := by
  obtain ⟨_, _, h⟩ := s.permissionClose_frame x; rw [h]
@[simp] theorem State.permissionClose_control (s : State) (x : Schedule) :
    (s.permissionClose x).control = s.control := by
  obtain ⟨_, _, h⟩ := s.permissionClose_frame x; rw [h]
@[simp] theorem State.permissionClose_link (s : State) (x : Schedule) :
    (s.permissionClose x).link = s.link := by
  obtain ⟨_, _, h⟩ := s.permissionClose_frame x; rw [h]
@[simp] theorem State.permissionClose_console (s : State) (x : Schedule) :
    (s.permissionClose x).console = s.console := by
  obtain ⟨_, _, h⟩ := s.permissionClose_frame x; rw [h]
@[simp] theorem State.permissionClose_exporter (s : State) (x : Schedule) :
    (s.permissionClose x).exporter = s.exporter := by
  obtain ⟨_, _, h⟩ := s.permissionClose_frame x; rw [h]
@[simp] theorem State.permissionClose_standby (s : State) (x : Schedule) :
    (s.permissionClose x).standby = s.standby := by
  obtain ⟨_, _, h⟩ := s.permissionClose_frame x; rw [h]
@[simp] theorem State.permissionClose_pending (s : State) (x : Schedule) :
    (s.permissionClose x).pending = s.pending := by
  obtain ⟨_, _, h⟩ := s.permissionClose_frame x; rw [h]

@[simp] theorem State.tellFresh_hold (s : State) (p : SetIx) (sl : Slot) :
    (s.tellFresh p sl).hold = s.hold := by
  obtain ⟨_, _, h⟩ := s.tellFresh_frame p sl; rw [h]
@[simp] theorem State.tellFresh_straps (s : State) (p : SetIx) (sl : Slot) :
    (s.tellFresh p sl).straps = s.straps := by
  obtain ⟨_, _, h⟩ := s.tellFresh_frame p sl; rw [h]
@[simp] theorem State.tellFresh_now (s : State) (p : SetIx) (sl : Slot) : (s.tellFresh p sl).now = s.now := by
  obtain ⟨_, _, h⟩ := s.tellFresh_frame p sl; rw [h]
@[simp] theorem State.tellFresh_freshAt (s : State) (p : SetIx) (sl : Slot) :
    (s.tellFresh p sl).freshAt = s.freshAt := by
  obtain ⟨_, _, h⟩ := s.tellFresh_frame p sl; rw [h]
@[simp] theorem State.tellFresh_meter (s : State) (p : SetIx) (sl : Slot) :
    (s.tellFresh p sl).meter = s.meter := by
  obtain ⟨_, _, h⟩ := s.tellFresh_frame p sl; rw [h]
@[simp] theorem State.tellFresh_readings (s : State) (p : SetIx) (sl : Slot) :
    (s.tellFresh p sl).readings = s.readings := by
  obtain ⟨_, _, h⟩ := s.tellFresh_frame p sl; rw [h]
@[simp] theorem State.tellFresh_points (s : State) (p : SetIx) (sl : Slot) :
    (s.tellFresh p sl).points = s.points := by
  obtain ⟨_, _, h⟩ := s.tellFresh_frame p sl; rw [h]
@[simp] theorem State.tellFresh_sched (s : State) (p : SetIx) (sl : Slot) :
    (s.tellFresh p sl).sched = s.sched := by
  obtain ⟨_, _, h⟩ := s.tellFresh_frame p sl; rw [h]
@[simp] theorem State.tellFresh_engines (s : State) (p : SetIx) (sl : Slot) :
    (s.tellFresh p sl).engines = s.engines := by
  obtain ⟨_, _, h⟩ := s.tellFresh_frame p sl; rw [h]
@[simp] theorem State.tellFresh_link (s : State) (p : SetIx) (sl : Slot) :
    (s.tellFresh p sl).link = s.link := by
  obtain ⟨_, _, h⟩ := s.tellFresh_frame p sl; rw [h]
@[simp] theorem State.tellFresh_console (s : State) (p : SetIx) (sl : Slot) :
    (s.tellFresh p sl).console = s.console := by
  obtain ⟨_, _, h⟩ := s.tellFresh_frame p sl; rw [h]
@[simp] theorem State.tellFresh_reports (s : State) (p : SetIx) (sl : Slot) :
    (s.tellFresh p sl).reports = s.reports := by
  obtain ⟨_, _, h⟩ := s.tellFresh_frame p sl; rw [h]
@[simp] theorem State.tellFresh_exporter (s : State) (p : SetIx) (sl : Slot) :
    (s.tellFresh p sl).exporter = s.exporter := by
  obtain ⟨_, _, h⟩ := s.tellFresh_frame p sl; rw [h]
@[simp] theorem State.tellFresh_pending (s : State) (p : SetIx) (sl : Slot) :
    (s.tellFresh p sl).pending = s.pending := by
  obtain ⟨_, _, h⟩ := s.tellFresh_frame p sl; rw [h]

@[simp] theorem State.tellStale_hold (s : State) (p : SetIx) (sl : Slot) :
    (s.tellStale p sl).hold = s.hold := by
  obtain ⟨_, _, h⟩ := s.tellStale_frame p sl; rw [h]
@[simp] theorem State.tellStale_straps (s : State) (p : SetIx) (sl : Slot) :
    (s.tellStale p sl).straps = s.straps := by
  obtain ⟨_, _, h⟩ := s.tellStale_frame p sl; rw [h]
@[simp] theorem State.tellStale_now (s : State) (p : SetIx) (sl : Slot) : (s.tellStale p sl).now = s.now := by
  obtain ⟨_, _, h⟩ := s.tellStale_frame p sl; rw [h]
@[simp] theorem State.tellStale_freshAt (s : State) (p : SetIx) (sl : Slot) :
    (s.tellStale p sl).freshAt = s.freshAt := by
  obtain ⟨_, _, h⟩ := s.tellStale_frame p sl; rw [h]
@[simp] theorem State.tellStale_meter (s : State) (p : SetIx) (sl : Slot) :
    (s.tellStale p sl).meter = s.meter := by
  obtain ⟨_, _, h⟩ := s.tellStale_frame p sl; rw [h]
@[simp] theorem State.tellStale_readings (s : State) (p : SetIx) (sl : Slot) :
    (s.tellStale p sl).readings = s.readings := by
  obtain ⟨_, _, h⟩ := s.tellStale_frame p sl; rw [h]
@[simp] theorem State.tellStale_points (s : State) (p : SetIx) (sl : Slot) :
    (s.tellStale p sl).points = s.points := by
  obtain ⟨_, _, h⟩ := s.tellStale_frame p sl; rw [h]
@[simp] theorem State.tellStale_sched (s : State) (p : SetIx) (sl : Slot) :
    (s.tellStale p sl).sched = s.sched := by
  obtain ⟨_, _, h⟩ := s.tellStale_frame p sl; rw [h]
@[simp] theorem State.tellStale_engines (s : State) (p : SetIx) (sl : Slot) :
    (s.tellStale p sl).engines = s.engines := by
  obtain ⟨_, _, h⟩ := s.tellStale_frame p sl; rw [h]
@[simp] theorem State.tellStale_link (s : State) (p : SetIx) (sl : Slot) :
    (s.tellStale p sl).link = s.link := by
  obtain ⟨_, _, h⟩ := s.tellStale_frame p sl; rw [h]
@[simp] theorem State.tellStale_console (s : State) (p : SetIx) (sl : Slot) :
    (s.tellStale p sl).console = s.console := by
  obtain ⟨_, _, h⟩ := s.tellStale_frame p sl; rw [h]
@[simp] theorem State.tellStale_reports (s : State) (p : SetIx) (sl : Slot) :
    (s.tellStale p sl).reports = s.reports := by
  obtain ⟨_, _, h⟩ := s.tellStale_frame p sl; rw [h]
@[simp] theorem State.tellStale_exporter (s : State) (p : SetIx) (sl : Slot) :
    (s.tellStale p sl).exporter = s.exporter := by
  obtain ⟨_, _, h⟩ := s.tellStale_frame p sl; rw [h]
@[simp] theorem State.tellStale_pending (s : State) (p : SetIx) (sl : Slot) :
    (s.tellStale p sl).pending = s.pending := by
  obtain ⟨_, _, h⟩ := s.tellStale_frame p sl; rw [h]

@[simp] theorem State.refreshSlot_hold (s : State) (p : SetIx) (w : Way) (r : Reading) :
    (s.refreshSlot p w r).hold = s.hold := by
  obtain ⟨_, _, _, _, h⟩ := s.refreshSlot_frame p w r; rw [h]
@[simp] theorem State.refreshSlot_straps (s : State) (p : SetIx) (w : Way) (r : Reading) :
    (s.refreshSlot p w r).straps = s.straps := by
  obtain ⟨_, _, _, _, h⟩ := s.refreshSlot_frame p w r; rw [h]
@[simp] theorem State.refreshSlot_now (s : State) (p : SetIx) (w : Way) (r : Reading) :
    (s.refreshSlot p w r).now = s.now := by
  obtain ⟨_, _, _, _, h⟩ := s.refreshSlot_frame p w r; rw [h]
@[simp] theorem State.refreshSlot_freshAt (s : State) (p : SetIx) (w : Way) (r : Reading) :
    (s.refreshSlot p w r).freshAt = s.freshAt := by
  obtain ⟨_, _, _, _, h⟩ := s.refreshSlot_frame p w r; rw [h]
@[simp] theorem State.refreshSlot_meter (s : State) (p : SetIx) (w : Way) (r : Reading) :
    (s.refreshSlot p w r).meter = s.meter := by
  obtain ⟨_, _, _, _, h⟩ := s.refreshSlot_frame p w r; rw [h]
@[simp] theorem State.refreshSlot_readings (s : State) (p : SetIx) (w : Way) (r : Reading) :
    (s.refreshSlot p w r).readings = s.readings := by
  obtain ⟨_, _, _, _, h⟩ := s.refreshSlot_frame p w r; rw [h]
@[simp] theorem State.refreshSlot_sched (s : State) (p : SetIx) (w : Way) (r : Reading) :
    (s.refreshSlot p w r).sched = s.sched := by
  obtain ⟨_, _, _, _, h⟩ := s.refreshSlot_frame p w r; rw [h]
@[simp] theorem State.refreshSlot_engines (s : State) (p : SetIx) (w : Way) (r : Reading) :
    (s.refreshSlot p w r).engines = s.engines := by
  obtain ⟨_, _, _, _, h⟩ := s.refreshSlot_frame p w r; rw [h]
@[simp] theorem State.refreshSlot_link (s : State) (p : SetIx) (w : Way) (r : Reading) :
    (s.refreshSlot p w r).link = s.link := by
  obtain ⟨_, _, _, _, h⟩ := s.refreshSlot_frame p w r; rw [h]
@[simp] theorem State.refreshSlot_console (s : State) (p : SetIx) (w : Way) (r : Reading) :
    (s.refreshSlot p w r).console = s.console := by
  obtain ⟨_, _, _, _, h⟩ := s.refreshSlot_frame p w r; rw [h]
@[simp] theorem State.refreshSlot_exporter (s : State) (p : SetIx) (w : Way) (r : Reading) :
    (s.refreshSlot p w r).exporter = s.exporter := by
  obtain ⟨_, _, _, _, h⟩ := s.refreshSlot_frame p w r; rw [h]
@[simp] theorem State.refreshSlot_pending (s : State) (p : SetIx) (w : Way) (r : Reading) :
    (s.refreshSlot p w r).pending = s.pending := by
  obtain ⟨_, _, _, _, h⟩ := s.refreshSlot_frame p w r; rw [h]

@[simp] theorem State.workFixed_hold (s : State) (p : SetIx) (w : Way) (z : Zone) (lim : LimitSet) (r : Reading) :
    (s.workFixed p w z lim r).hold = s.hold := by
  obtain ⟨_, _, _, _, _, _, h⟩ := s.workFixed_frame p w z lim r; rw [h]
@[simp] theorem State.workFixed_straps (s : State) (p : SetIx) (w : Way) (z : Zone) (lim : LimitSet) (r : Reading) :
    (s.workFixed p w z lim r).straps = s.straps := by
  obtain ⟨_, _, _, _, _, _, h⟩ := s.workFixed_frame p w z lim r; rw [h]
@[simp] theorem State.workFixed_now (s : State) (p : SetIx) (w : Way) (z : Zone) (lim : LimitSet) (r : Reading) :
    (s.workFixed p w z lim r).now = s.now := by
  obtain ⟨_, _, _, _, _, _, h⟩ := s.workFixed_frame p w z lim r; rw [h]
@[simp] theorem State.workFixed_freshAt (s : State) (p : SetIx) (w : Way) (z : Zone) (lim : LimitSet) (r : Reading) :
    (s.workFixed p w z lim r).freshAt = s.freshAt := by
  obtain ⟨_, _, _, _, _, _, h⟩ := s.workFixed_frame p w z lim r; rw [h]
@[simp] theorem State.workFixed_meter (s : State) (p : SetIx) (w : Way) (z : Zone) (lim : LimitSet) (r : Reading) :
    (s.workFixed p w z lim r).meter = s.meter := by
  obtain ⟨_, _, _, _, _, _, h⟩ := s.workFixed_frame p w z lim r; rw [h]
@[simp] theorem State.workFixed_readings (s : State) (p : SetIx) (w : Way) (z : Zone) (lim : LimitSet) (r : Reading) :
    (s.workFixed p w z lim r).readings = s.readings := by
  obtain ⟨_, _, _, _, _, _, h⟩ := s.workFixed_frame p w z lim r; rw [h]
@[simp] theorem State.workFixed_link (s : State) (p : SetIx) (w : Way) (z : Zone) (lim : LimitSet) (r : Reading) :
    (s.workFixed p w z lim r).link = s.link := by
  obtain ⟨_, _, _, _, _, _, h⟩ := s.workFixed_frame p w z lim r; rw [h]
@[simp] theorem State.workFixed_console (s : State) (p : SetIx) (w : Way) (z : Zone) (lim : LimitSet) (r : Reading) :
    (s.workFixed p w z lim r).console = s.console := by
  obtain ⟨_, _, _, _, _, _, h⟩ := s.workFixed_frame p w z lim r; rw [h]
@[simp] theorem State.workFixed_exporter (s : State) (p : SetIx) (w : Way) (z : Zone) (lim : LimitSet) (r : Reading) :
    (s.workFixed p w z lim r).exporter = s.exporter := by
  obtain ⟨_, _, _, _, _, _, h⟩ := s.workFixed_frame p w z lim r; rw [h]
@[simp] theorem State.workFixed_pending (s : State) (p : SetIx) (w : Way) (z : Zone) (lim : LimitSet) (r : Reading) :
    (s.workFixed p w z lim r).pending = s.pending := by
  obtain ⟨_, _, _, _, _, _, h⟩ := s.workFixed_frame p w z lim r; rw [h]

@[simp] theorem State.workStage_hold (s : State) (p : SetIx) (w : Way) (st : Stage) (r : Reading) :
    (s.workStage p w st r).hold = s.hold := by
  obtain ⟨_, _, _, _, h⟩ := s.workStage_frame p w st r; rw [h]
@[simp] theorem State.workStage_straps (s : State) (p : SetIx) (w : Way) (st : Stage) (r : Reading) :
    (s.workStage p w st r).straps = s.straps := by
  obtain ⟨_, _, _, _, h⟩ := s.workStage_frame p w st r; rw [h]
@[simp] theorem State.workStage_now (s : State) (p : SetIx) (w : Way) (st : Stage) (r : Reading) :
    (s.workStage p w st r).now = s.now := by
  obtain ⟨_, _, _, _, h⟩ := s.workStage_frame p w st r; rw [h]
@[simp] theorem State.workStage_freshAt (s : State) (p : SetIx) (w : Way) (st : Stage) (r : Reading) :
    (s.workStage p w st r).freshAt = s.freshAt := by
  obtain ⟨_, _, _, _, h⟩ := s.workStage_frame p w st r; rw [h]
@[simp] theorem State.workStage_meter (s : State) (p : SetIx) (w : Way) (st : Stage) (r : Reading) :
    (s.workStage p w st r).meter = s.meter := by
  obtain ⟨_, _, _, _, h⟩ := s.workStage_frame p w st r; rw [h]
@[simp] theorem State.workStage_readings (s : State) (p : SetIx) (w : Way) (st : Stage) (r : Reading) :
    (s.workStage p w st r).readings = s.readings := by
  obtain ⟨_, _, _, _, h⟩ := s.workStage_frame p w st r; rw [h]
@[simp] theorem State.workStage_sched (s : State) (p : SetIx) (w : Way) (st : Stage) (r : Reading) :
    (s.workStage p w st r).sched = s.sched := by
  obtain ⟨_, _, _, _, h⟩ := s.workStage_frame p w st r; rw [h]
@[simp] theorem State.workStage_control (s : State) (p : SetIx) (w : Way) (st : Stage) (r : Reading) :
    (s.workStage p w st r).control = s.control := by
  obtain ⟨_, _, _, _, h⟩ := s.workStage_frame p w st r; rw [h]
@[simp] theorem State.workStage_link (s : State) (p : SetIx) (w : Way) (st : Stage) (r : Reading) :
    (s.workStage p w st r).link = s.link := by
  obtain ⟨_, _, _, _, h⟩ := s.workStage_frame p w st r; rw [h]
@[simp] theorem State.workStage_console (s : State) (p : SetIx) (w : Way) (st : Stage) (r : Reading) :
    (s.workStage p w st r).console = s.console := by
  obtain ⟨_, _, _, _, h⟩ := s.workStage_frame p w st r; rw [h]
@[simp] theorem State.workStage_exporter (s : State) (p : SetIx) (w : Way) (st : Stage) (r : Reading) :
    (s.workStage p w st r).exporter = s.exporter := by
  obtain ⟨_, _, _, _, h⟩ := s.workStage_frame p w st r; rw [h]
@[simp] theorem State.workStage_pending (s : State) (p : SetIx) (w : Way) (st : Stage) (r : Reading) :
    (s.workStage p w st r).pending = s.pending := by
  obtain ⟨_, _, _, _, h⟩ := s.workStage_frame p w st r; rw [h]

@[simp] theorem State.windowWork_hold (s : State) (p : SetIx) (w : Way) (r : Reading) :
    (s.windowWork p w r).hold = s.hold := by
  obtain ⟨_, _, _, _, _, _, h⟩ := s.windowWork_frame p w r; rw [h]
@[simp] theorem State.windowWork_straps (s : State) (p : SetIx) (w : Way) (r : Reading) :
    (s.windowWork p w r).straps = s.straps := by
  obtain ⟨_, _, _, _, _, _, h⟩ := s.windowWork_frame p w r; rw [h]
@[simp] theorem State.windowWork_now (s : State) (p : SetIx) (w : Way) (r : Reading) :
    (s.windowWork p w r).now = s.now := by
  obtain ⟨_, _, _, _, _, _, h⟩ := s.windowWork_frame p w r; rw [h]
@[simp] theorem State.windowWork_freshAt (s : State) (p : SetIx) (w : Way) (r : Reading) :
    (s.windowWork p w r).freshAt = s.freshAt := by
  obtain ⟨_, _, _, _, _, _, h⟩ := s.windowWork_frame p w r; rw [h]
@[simp] theorem State.windowWork_meter (s : State) (p : SetIx) (w : Way) (r : Reading) :
    (s.windowWork p w r).meter = s.meter := by
  obtain ⟨_, _, _, _, _, _, h⟩ := s.windowWork_frame p w r; rw [h]
@[simp] theorem State.windowWork_readings (s : State) (p : SetIx) (w : Way) (r : Reading) :
    (s.windowWork p w r).readings = s.readings := by
  obtain ⟨_, _, _, _, _, _, h⟩ := s.windowWork_frame p w r; rw [h]
@[simp] theorem State.windowWork_link (s : State) (p : SetIx) (w : Way) (r : Reading) :
    (s.windowWork p w r).link = s.link := by
  obtain ⟨_, _, _, _, _, _, h⟩ := s.windowWork_frame p w r; rw [h]
@[simp] theorem State.windowWork_console (s : State) (p : SetIx) (w : Way) (r : Reading) :
    (s.windowWork p w r).console = s.console := by
  obtain ⟨_, _, _, _, _, _, h⟩ := s.windowWork_frame p w r; rw [h]
@[simp] theorem State.windowWork_exporter (s : State) (p : SetIx) (w : Way) (r : Reading) :
    (s.windowWork p w r).exporter = s.exporter := by
  obtain ⟨_, _, _, _, _, _, h⟩ := s.windowWork_frame p w r; rw [h]
@[simp] theorem State.windowWork_pending (s : State) (p : SetIx) (w : Way) (r : Reading) :
    (s.windowWork p w r).pending = s.pending := by
  obtain ⟨_, _, _, _, _, _, h⟩ := s.windowWork_frame p w r; rw [h]

@[simp] theorem State.processReading_hold (s : State) (r : Reading) : (s.processReading r).hold = s.hold := by
  obtain ⟨_, _, _, _, _, _, _, h⟩ := s.processReading_frame r; rw [h]
@[simp] theorem State.processReading_straps (s : State) (r : Reading) :
    (s.processReading r).straps = s.straps := by
  obtain ⟨_, _, _, _, _, _, _, h⟩ := s.processReading_frame r; rw [h]
@[simp] theorem State.processReading_now (s : State) (r : Reading) : (s.processReading r).now = s.now := by
  obtain ⟨_, _, _, _, _, _, _, h⟩ := s.processReading_frame r; rw [h]
@[simp] theorem State.processReading_freshAt (s : State) (r : Reading) :
    (s.processReading r).freshAt = s.freshAt := by
  obtain ⟨_, _, _, _, _, _, _, h⟩ := s.processReading_frame r; rw [h]
@[simp] theorem State.processReading_meter (s : State) (r : Reading) :
    (s.processReading r).meter = s.meter := by
  obtain ⟨_, _, _, _, _, _, _, h⟩ := s.processReading_frame r; rw [h]
@[simp] theorem State.processReading_readings (s : State) (r : Reading) :
    (s.processReading r).readings = s.readings := by
  obtain ⟨_, _, _, _, _, _, _, h⟩ := s.processReading_frame r; rw [h]
@[simp] theorem State.processReading_link (s : State) (r : Reading) : (s.processReading r).link = s.link := by
  obtain ⟨_, _, _, _, _, _, _, h⟩ := s.processReading_frame r; rw [h]
@[simp] theorem State.processReading_console (s : State) (r : Reading) :
    (s.processReading r).console = s.console := by
  obtain ⟨_, _, _, _, _, _, _, h⟩ := s.processReading_frame r; rw [h]
@[simp] theorem State.processReading_pending (s : State) (r : Reading) :
    (s.processReading r).pending = s.pending := by
  obtain ⟨_, _, _, _, _, _, _, h⟩ := s.processReading_frame r; rw [h]

@[simp] theorem State.tickSlot_hold (s : State) (p : SetIx) (w : Way) : (s.tickSlot p w).hold = s.hold := by
  obtain ⟨_, _, _, _, h⟩ := s.tickSlot_frame p w; rw [h]
@[simp] theorem State.tickSlot_straps (s : State) (p : SetIx) (w : Way) :
    (s.tickSlot p w).straps = s.straps := by
  obtain ⟨_, _, _, _, h⟩ := s.tickSlot_frame p w; rw [h]
@[simp] theorem State.tickSlot_now (s : State) (p : SetIx) (w : Way) : (s.tickSlot p w).now = s.now := by
  obtain ⟨_, _, _, _, h⟩ := s.tickSlot_frame p w; rw [h]
@[simp] theorem State.tickSlot_freshAt (s : State) (p : SetIx) (w : Way) :
    (s.tickSlot p w).freshAt = s.freshAt := by
  obtain ⟨_, _, _, _, h⟩ := s.tickSlot_frame p w; rw [h]
@[simp] theorem State.tickSlot_meter (s : State) (p : SetIx) (w : Way) :
    (s.tickSlot p w).meter = s.meter := by
  obtain ⟨_, _, _, _, h⟩ := s.tickSlot_frame p w; rw [h]
@[simp] theorem State.tickSlot_readings (s : State) (p : SetIx) (w : Way) :
    (s.tickSlot p w).readings = s.readings := by
  obtain ⟨_, _, _, _, h⟩ := s.tickSlot_frame p w; rw [h]
@[simp] theorem State.tickSlot_sched (s : State) (p : SetIx) (w : Way) :
    (s.tickSlot p w).sched = s.sched := by
  obtain ⟨_, _, _, _, h⟩ := s.tickSlot_frame p w; rw [h]
@[simp] theorem State.tickSlot_engines (s : State) (p : SetIx) (w : Way) :
    (s.tickSlot p w).engines = s.engines := by
  obtain ⟨_, _, _, _, h⟩ := s.tickSlot_frame p w; rw [h]
@[simp] theorem State.tickSlot_link (s : State) (p : SetIx) (w : Way) : (s.tickSlot p w).link = s.link := by
  obtain ⟨_, _, _, _, h⟩ := s.tickSlot_frame p w; rw [h]
@[simp] theorem State.tickSlot_console (s : State) (p : SetIx) (w : Way) :
    (s.tickSlot p w).console = s.console := by
  obtain ⟨_, _, _, _, h⟩ := s.tickSlot_frame p w; rw [h]
@[simp] theorem State.tickSlot_exporter (s : State) (p : SetIx) (w : Way) :
    (s.tickSlot p w).exporter = s.exporter := by
  obtain ⟨_, _, _, _, h⟩ := s.tickSlot_frame p w; rw [h]
@[simp] theorem State.tickSlot_pending (s : State) (p : SetIx) (w : Way) :
    (s.tickSlot p w).pending = s.pending := by
  obtain ⟨_, _, _, _, h⟩ := s.tickSlot_frame p w; rw [h]

@[simp] theorem State.chooseFrame_hold (s : State) : s.chooseFrame.hold = s.hold := by
  obtain ⟨_, _, _, h⟩ := s.chooseFrame_frame; rw [h]
@[simp] theorem State.chooseFrame_straps (s : State) : s.chooseFrame.straps = s.straps := by
  obtain ⟨_, _, _, h⟩ := s.chooseFrame_frame; rw [h]
@[simp] theorem State.chooseFrame_now (s : State) : s.chooseFrame.now = s.now := by
  obtain ⟨_, _, _, h⟩ := s.chooseFrame_frame; rw [h]
@[simp] theorem State.chooseFrame_freshAt (s : State) : s.chooseFrame.freshAt = s.freshAt := by
  obtain ⟨_, _, _, h⟩ := s.chooseFrame_frame; rw [h]
@[simp] theorem State.chooseFrame_meter (s : State) : s.chooseFrame.meter = s.meter := by
  obtain ⟨_, _, _, h⟩ := s.chooseFrame_frame; rw [h]
@[simp] theorem State.chooseFrame_readings (s : State) : s.chooseFrame.readings = s.readings := by
  obtain ⟨_, _, _, h⟩ := s.chooseFrame_frame; rw [h]
@[simp] theorem State.chooseFrame_points (s : State) : s.chooseFrame.points = s.points := by
  obtain ⟨_, _, _, h⟩ := s.chooseFrame_frame; rw [h]
@[simp] theorem State.chooseFrame_sched (s : State) : s.chooseFrame.sched = s.sched := by
  obtain ⟨_, _, _, h⟩ := s.chooseFrame_frame; rw [h]
@[simp] theorem State.chooseFrame_control (s : State) : s.chooseFrame.control = s.control := by
  obtain ⟨_, _, _, h⟩ := s.chooseFrame_frame; rw [h]
@[simp] theorem State.chooseFrame_engines (s : State) : s.chooseFrame.engines = s.engines := by
  obtain ⟨_, _, _, h⟩ := s.chooseFrame_frame; rw [h]
@[simp] theorem State.chooseFrame_link (s : State) : s.chooseFrame.link = s.link := by
  obtain ⟨_, _, _, h⟩ := s.chooseFrame_frame; rw [h]
@[simp] theorem State.chooseFrame_standby (s : State) : s.chooseFrame.standby = s.standby := by
  obtain ⟨_, _, _, h⟩ := s.chooseFrame_frame; rw [h]
@[simp] theorem State.chooseFrame_pending (s : State) : s.chooseFrame.pending = s.pending := by
  obtain ⟨_, _, _, h⟩ := s.chooseFrame_frame; rw [h]

@[simp] theorem State.transmit_hold (s : State) : s.transmit.hold = s.hold := by
  obtain ⟨_, _, _, _, _, h⟩ := s.transmit_frame; rw [h]
@[simp] theorem State.transmit_straps (s : State) : s.transmit.straps = s.straps := by
  obtain ⟨_, _, _, _, _, h⟩ := s.transmit_frame; rw [h]
@[simp] theorem State.transmit_now (s : State) : s.transmit.now = s.now := by
  obtain ⟨_, _, _, _, _, h⟩ := s.transmit_frame; rw [h]
@[simp] theorem State.transmit_freshAt (s : State) : s.transmit.freshAt = s.freshAt := by
  obtain ⟨_, _, _, _, _, h⟩ := s.transmit_frame; rw [h]
@[simp] theorem State.transmit_meter (s : State) : s.transmit.meter = s.meter := by
  obtain ⟨_, _, _, _, _, h⟩ := s.transmit_frame; rw [h]
@[simp] theorem State.transmit_readings (s : State) : s.transmit.readings = s.readings := by
  obtain ⟨_, _, _, _, _, h⟩ := s.transmit_frame; rw [h]
@[simp] theorem State.transmit_points (s : State) : s.transmit.points = s.points := by
  obtain ⟨_, _, _, _, _, h⟩ := s.transmit_frame; rw [h]
@[simp] theorem State.transmit_sched (s : State) : s.transmit.sched = s.sched := by
  obtain ⟨_, _, _, _, _, h⟩ := s.transmit_frame; rw [h]
@[simp] theorem State.transmit_control (s : State) : s.transmit.control = s.control := by
  obtain ⟨_, _, _, _, _, h⟩ := s.transmit_frame; rw [h]
@[simp] theorem State.transmit_standby (s : State) : s.transmit.standby = s.standby := by
  obtain ⟨_, _, _, _, _, h⟩ := s.transmit_frame; rw [h]
@[simp] theorem State.transmit_pending (s : State) : s.transmit.pending = s.pending := by
  obtain ⟨_, _, _, _, _, h⟩ := s.transmit_frame; rw [h]

end Sys2Proof.Machine
end

