-- ==== Sys2Proof/Laws/Commands.lean ====
section
/-! SUPPORT. What each command is, one simp equation for each constructor; and the request decoder's
owners, one equation for each kind, with the case analysis of a request over them. -/

namespace Sys2Proof.Machine

/-! ### Commands -/

@[simp] theorem exec_powerOn (pins : Straps) (s : State) :
    exec (.powerOn pins) s =
      .next (s.resetEnds pins { pin := s.hold.pin, supply := false }).transmit := rfl

@[simp] theorem exec_pinReset (pins : Straps) (s : State) :
    exec (.pinReset pins) s =
      .next (s.resetEnds pins { pin := false, supply := s.hold.supply }).transmit := rfl

@[simp] theorem exec_resetNLow (s : State) :
    exec .resetNLow s =
      .next (s.beginHold { s.hold with pin := true }) := rfl

@[simp] theorem exec_supplyBelowRange (s : State) :
    exec .supplyBelowRange s =
      .next (s.beginHold { s.hold with supply := true }) := rfl

@[simp] theorem exec_meterCharacterReceived (inp : Input) (c : Byte) (good : Bool) (s : State) :
    exec (.meterCharacterReceived inp c good) s =
      s.act (·.meterCharacter inp c good) := rfl

@[simp] theorem exec_meterReadingFrame (inp : Input) (f : MeterFrame) (s : State) :
    exec (.meterReadingFrame inp f) s =
      s.act fun t => (t.huntMeter inp).validFrame inp f := rfl

@[simp] theorem exec_badFrame (inp : Input) (s : State) :
    exec (.badFrame inp) s =
      s.act (·.dropMeterFrame inp) := rfl

@[simp] theorem exec_meterFrameGapExpiry (inp : Input) (s : State) :
    exec (.meterFrameGapExpiry inp) s =
      s.act (·.meterGapExpiry inp) := rfl

@[simp] theorem exec_meterLineBreak (inp : Input) (s : State) :
    exec (.meterLineBreak inp) s =
      s.act (·.meterBreak inp) := rfl

@[simp] theorem exec_aliveTimerExpiry (inp : Input) (s : State) :
    exec (.aliveTimerExpiry inp) s =
      s.act (·.aliveExpiry inp) := rfl

@[simp] theorem exec_returnTimerExpiry (s : State) :
    exec .returnTimerExpiry s =
      s.act State.returnExpiry := rfl

@[simp] theorem exec_reading (s : State) :
    exec .reading s =
      s.act State.takeReading := rfl

@[simp] theorem exec_freshnessTick (s : State) :
    exec .freshnessTick s =
      s.act State.freshnessTick := rfl

@[simp] theorem exec_freezeTimerExpiry (set : SetIx) (s : State) :
    exec (.freezeTimerExpiry set) s =
      s.act (·.freezeExpiry set) := rfl

@[simp] theorem exec_venueClockTick (s : State) :
    exec .venueClockTick s =
      s.act State.clockTick := rfl

@[simp] theorem exec_stepTimerTick (st : Stage) (s : State) :
    exec (.stepTimerTick st) s =
      s.act (·.stepTick st) := rfl

@[simp] theorem exec_holdTimerExpiry (st : Stage) (s : State) :
    exec (.holdTimerExpiry st) s =
      s.act (·.holdExpiry st) := rfl

@[simp] theorem exec_releaseTimerTick (st : Stage) (s : State) :
    exec (.releaseTimerTick st) s =
      s.act (·.releaseTick st) := rfl

@[simp] theorem exec_refreshTimerExpiry (st : Stage) (s : State) :
    exec (.refreshTimerExpiry st) s =
      s.act (·.refreshExpiry st) := rfl

@[simp] theorem exec_stageOrderSent (s : State) :
    exec .stageOrderSent s =
      s.act State.orderSent := rfl

@[simp] theorem exec_darkTimerExpiry (s : State) :
    exec .darkTimerExpiry s =
      s.act State.darkExpiry := rfl

@[simp] theorem exec_consoleCharacterReceived (c : Byte) (good : Bool) (s : State) :
    exec (.consoleCharacterReceived c good) s =
      s.act (·.consoleCharacter c good) := rfl

@[simp] theorem exec_consoleFrameDiscarded (s : State) :
    exec .consoleFrameDiscarded s =
      s.act State.huntConsole := rfl

@[simp] theorem exec_consoleFrameGapExpiry (s : State) :
    exec .consoleFrameGapExpiry s =
      s.act State.consoleGapExpiry := rfl

@[simp] theorem exec_consoleLineBreak (s : State) :
    exec .consoleLineBreak s =
      s.act State.consoleBreak := rfl

@[simp] theorem exec_consoleFrameSent (pins : Straps) (s : State) :
    exec (.consoleFrameSent pins) s =
      s.act (·.frameSent pins) := rfl

@[simp] theorem exec_requestDiscarded (kind seq : Byte) (body : List Byte) (s : State) :
    exec (.requestDiscarded kind seq body) s =
      s.act (·.requestFrame kind seq body) := rfl

@[simp] theorem exec_unknownKind (kind seq : Byte) (body : List Byte) (s : State) :
    exec (.unknownKind kind seq body) s =
      s.act (·.requestFrame kind seq body) := rfl

@[simp] theorem exec_status (seq : Byte) (body : List Byte) (s : State) :
    exec (.status seq body) s =
      s.act (·.requestFrame 0x01 seq body) := rfl

@[simp] theorem exec_setTime (seq : Byte) (body : List Byte) (s : State) :
    exec (.setTime seq body) s =
      s.act (·.requestFrame 0x02 seq body) := rfl

@[simp] theorem exec_getTime (seq : Byte) (body : List Byte) (s : State) :
    exec (.getTime seq body) s =
      s.act (·.requestFrame 0x03 seq body) := rfl

@[simp] theorem exec_start (seq : Byte) (body : List Byte) (s : State) :
    exec (.start seq body) s =
      s.act (·.requestFrame 0x04 seq body) := rfl

@[simp] theorem exec_restartFull (seq : Byte) (body : List Byte) (s : State) :
    exec (.restartFull seq body) s =
      s.act (·.requestFrame 0x05 seq body) := rfl

@[simp] theorem exec_restartEnforcement (seq : Byte) (body : List Byte) (s : State) :
    exec (.restartEnforcement seq body) s =
      s.act (·.requestFrame 0x05 seq body) := rfl

@[simp] theorem exec_declarePoint (seq : Byte) (body : List Byte) (s : State) :
    exec (.declarePoint seq body) s =
      s.act (·.requestFrame 0x10 seq body) := rfl

@[simp] theorem exec_releasePoint (seq : Byte) (body : List Byte) (s : State) :
    exec (.releasePoint seq body) s =
      s.act (·.requestFrame 0x11 seq body) := rfl

@[simp] theorem exec_readPoint (seq : Byte) (body : List Byte) (s : State) :
    exec (.readPoint seq body) s =
      s.act (·.requestFrame 0x12 seq body) := rfl

@[simp] theorem exec_setCoupling (seq : Byte) (body : List Byte) (s : State) :
    exec (.setCoupling seq body) s =
      s.act (·.requestFrame 0x13 seq body) := rfl

@[simp] theorem exec_postPeriod (seq : Byte) (body : List Byte) (s : State) :
    exec (.postPeriod seq body) s =
      s.act (·.requestFrame 0x20 seq body) := rfl

@[simp] theorem exec_readPeriod (seq : Byte) (body : List Byte) (s : State) :
    exec (.readPeriod seq body) s =
      s.act (·.requestFrame 0x21 seq body) := rfl

@[simp] theorem exec_recallPeriod (seq : Byte) (body : List Byte) (s : State) :
    exec (.recallPeriod seq body) s =
      s.act (·.requestFrame 0x22 seq body) := rfl

@[simp] theorem exec_setFallback (seq : Byte) (body : List Byte) (s : State) :
    exec (.setFallback seq body) s =
      s.act (·.requestFrame 0x23 seq body) := rfl

@[simp] theorem exec_setStageRates (seq : Byte) (body : List Byte) (s : State) :
    exec (.setStageRates seq body) s =
      s.act (·.requestFrame 0x30 seq body) := rfl

@[simp] theorem exec_readStage (seq : Byte) (body : List Byte) (s : State) :
    exec (.readStage seq body) s =
      s.act (·.requestFrame 0x31 seq body) := rfl

@[simp] theorem exec_setDark (seq : Byte) (body : List Byte) (s : State) :
    exec (.setDark seq body) s =
      s.act (·.requestFrame 0x32 seq body) := rfl

@[simp] theorem exec_readCounters (seq : Byte) (body : List Byte) (s : State) :
    exec (.readCounters seq body) s =
      s.act (·.requestFrame 0x38 seq body) := rfl

@[simp] theorem exec_readCountersClear (seq : Byte) (body : List Byte) (s : State) :
    exec (.readCountersClear seq body) s =
      s.act (·.requestFrame 0x38 seq body) := rfl

@[simp] theorem exec_exportOne (seq : Byte) (body : List Byte) (s : State) :
    exec (.exportOne seq body) s =
      s.act (·.requestFrame 0x3A seq body) := rfl

@[simp] theorem exec_exportWalk (seq : Byte) (body : List Byte) (s : State) :
    exec (.exportWalk seq body) s =
      s.act (·.requestFrame 0x3A seq body) := rfl

@[simp] theorem exec_abortExport (seq : Byte) (body : List Byte) (s : State) :
    exec (.abortExport seq body) s =
      s.act (·.requestFrame 0x3B seq body) := rfl

end Sys2Proof.Machine
end

