-- ==== Sys2Proof/Laws/Requests.lean ====
section
/-! SUPPORT. The request decoder: which owner answers a request of the table, and the case analysis of an
answer over the owners. -/

namespace Sys2Proof.Machine

/-! ### The owner of each kind -/

@[simp] theorem ownerReply_status (seq : Byte) (s : State) :
    ownerReply .status seq [] s =
      ownStatus s := rfl

@[simp] theorem ownerReply_setTime (seq t0 t1 t2 t3 : Byte) (s : State) :
    ownerReply .setTime seq [t0, t1, t2, t3] s =
      ownSetTime (le32 t0 t1 t2 t3) s := rfl

@[simp] theorem ownerReply_getTime (seq : Byte) (s : State) :
    ownerReply .getTime seq [] s =
      ownGetTime s := rfl

@[simp] theorem ownerReply_start (seq : Byte) (s : State) :
    ownerReply .start seq [] s =
      ownStart s := rfl

@[simp] theorem ownerReply_restart (seq x : Byte) (s : State) :
    ownerReply .restart seq [x] s =
      ownRestart x.toNat s := rfl

@[simp] theorem ownerReply_declarePoint (seq p0 p1 role place lock : Byte) (s : State) :
    ownerReply .declarePoint seq [p0, p1, role, place, lock] s =
      ownDeclare (le16 p0 p1) role.toNat place.toNat lock.toNat s := rfl

@[simp] theorem ownerReply_releasePoint (seq p0 p1 : Byte) (s : State) :
    ownerReply .releasePoint seq [p0, p1] s =
      ownRelease (le16 p0 p1) s := rfl

@[simp] theorem ownerReply_readPoint (seq p0 p1 : Byte) (s : State) :
    ownerReply .readPoint seq [p0, p1] s =
      ownReadPoint (le16 p0 p1) s := rfl

@[simp] theorem ownerReply_setCoupling (seq st p a0 a1 : Byte) (s : State) :
    ownerReply .setCoupling seq [st, p, a0, a1] s =
      ownSetCoupling st.toNat p.toNat (le16 a0 a1) s := rfl

@[simp] theorem ownerReply_postPeriod
    (seq i s0 s1 s2 s3 e0 e1 e2 e3 z st pm h0 h1 l0 l1 k c0 c1 f0 f1 m : Byte) (s : State) :
    ownerReply .postPeriod seq
      [i, s0, s1, s2, s3, e0, e1, e2, e3, z, st, pm, h0, h1, l0, l1, k, c0, c1, f0, f1, m] s =
      ownPost i.toNat
        { start := le32 s0 s1 s2 s3, stop := le32 e0 e1 e2 e3, zones := z, stages := st, permits := pm,
          short := le16 h0 h1, long := le16 l0 l1, k := k.toNat, ceiling := le16 c0 c1,
          fade := le16 f0 f1, margin := m.toNat } s := rfl

@[simp] theorem ownerReply_readPeriod (seq i : Byte) (s : State) :
    ownerReply .readPeriod seq [i] s =
      ownReadPeriod i.toNat s := rfl

@[simp] theorem ownerReply_recallPeriod (seq i : Byte) (s : State) :
    ownerReply .recallPeriod seq [i] s =
      ownRecall i.toNat s := rfl

@[simp] theorem ownerReply_setFallback (seq h0 h1 l0 l1 k c0 c1 pm f0 f1 m : Byte) (s : State) :
    ownerReply .setFallback seq [h0, h1, l0, l1, k, c0, c1, pm, f0, f1, m] s =
      ownSetFallback
        { short := le16 h0 h1, long := le16 l0 l1, k := k.toNat, ceiling := le16 c0 c1,
          permits := pm.extractLsb' 0 4, fade := le16 f0 f1, margin := m.toNat } s := rfl

@[simp] theorem ownerReply_setStageRates (seq st a r h : Byte) (s : State) :
    ownerReply .setStageRates seq [st, a, r, h] s =
      ownSetRates st.toNat a.toNat r.toNat h.toNat s := rfl

@[simp] theorem ownerReply_readStage (seq st : Byte) (s : State) :
    ownerReply .readStage seq [st] s =
      ownReadStage st.toNat s := rfl

@[simp] theorem ownerReply_setDark (seq e t0 t1 d0 d1 : Byte) (s : State) :
    ownerReply .setDark seq [e, t0, t1, d0, d1] s =
      ownSetDark e.toNat (le16 t0 t1) (le16 d0 d1) s := rfl

@[simp] theorem ownerReply_readCounters (seq c : Byte) (s : State) :
    ownerReply .readCounters seq [c] s =
      ownReadCounters c.toNat s := rfl

@[simp] theorem ownerReply_export (seq p0 p1 m b n : Byte) (s : State) :
    ownerReply .export_ seq [p0, p1, m, b, n] s =
      ownExport seq (le16 p0 p1) m.toNat b.toNat n.toNat s := rfl

@[simp] theorem ownerReply_abortExport (seq : Byte) (s : State) :
    ownerReply .abortExport seq [] s =
      ownAbort s := rfl

theorem requestOf_code (k : RequestKind) : requestOf k.code = some k := by cases k <;> rfl

theorem requestOf_isSome {kind : Byte} {k : RequestKind} (h : requestOf kind = some k) : k.code = kind := by
  simpa using List.find?_some h

/-- A request of the table with the right length is refused with BUSY while an export runs, unless it is
exempt, and is handed to its owner otherwise. -/
theorem answer_code (k : RequestKind) (seq : Byte) (body : List Byte) (s : State) (h : body.length = k.length) :
    answer k.code seq body s =
      if s.exporter.running ∧ k.exempt = false then (stBusy, s) else ownerReply k seq body s := by
  simp [answer, requestOf_code, h]

/-- The owner's reply to a body of the table's length is one of nineteen; a property of all of them is a
property of every owner's reply. -/
theorem ownerReply_induct {P : List Byte × State → Prop} {k : RequestKind} {seq : Byte} {body : List Byte}
    {s : State} (h : body.length = k.length)
    (status : P (ownStatus s)) (setTime : ∀ t, P (ownSetTime t s)) (getTime : P (ownGetTime s))
    (start : P (ownStart s)) (restart : ∀ x, P (ownRestart x s))
    (declare : ∀ id r pl l, P (ownDeclare id r pl l s)) (release : ∀ id, P (ownRelease id s))
    (readPoint : ∀ id, P (ownReadPoint id s)) (setCoupling : ∀ st p a, P (ownSetCoupling st p a s))
    (post : ∀ i f, P (ownPost i f s)) (readPeriod : ∀ i, P (ownReadPeriod i s))
    (withdraw : ∀ i, P (ownRecall i s)) (setFallback : ∀ f, P (ownSetFallback f s))
    (setRates : ∀ st a r h, P (ownSetRates st a r h s)) (readStage : ∀ st, P (ownReadStage st s))
    (setDark : ∀ e t d, P (ownSetDark e t d s)) (readCounters : ∀ c, P (ownReadCounters c s))
    (exports : ∀ id m b n, P (ownExport seq id m b n s)) (abort : P (ownAbort s)) :
    P (ownerReply k seq body s) := by
  cases k
  case status => match body, h with | [], _ => exact status
  case setTime => match body, h with | [_, _, _, _], _ => exact setTime _
  case getTime => match body, h with | [], _ => exact getTime
  case start => match body, h with | [], _ => exact start
  case restart => match body, h with | [_], _ => exact restart _
  case declarePoint => match body, h with | [_, _, _, _, _], _ => exact declare ..
  case releasePoint => match body, h with | [_, _], _ => exact release _
  case readPoint => match body, h with | [_, _], _ => exact readPoint _
  case setCoupling => match body, h with | [_, _, _, _], _ => exact setCoupling ..
  case postPeriod =>
    match body, h with
    | [_, _, _, _, _, _, _, _, _, _, _, _, _, _, _, _, _, _, _, _, _, _], _ => exact post ..
  case readPeriod => match body, h with | [_], _ => exact readPeriod _
  case recallPeriod => match body, h with | [_], _ => exact withdraw _
  case setFallback =>
    match body, h with | [_, _, _, _, _, _, _, _, _, _, _], _ => exact setFallback _
  case setStageRates => match body, h with | [_, _, _, _], _ => exact setRates ..
  case readStage => match body, h with | [_], _ => exact readStage _
  case setDark => match body, h with | [_, _, _, _, _], _ => exact setDark ..
  case readCounters => match body, h with | [_], _ => exact readCounters _
  case export_ => match body, h with | [_, _, _, _, _], _ => exact exports ..
  case abortExport => match body, h with | [], _ => exact abort

/-- An answer is a refusal of the decoder, which changes nothing, or the owner's reply to a body of the
table's length. -/
theorem answer_cases {P : List Byte × State → Prop} {kind seq : Byte} {body : List Byte} {s : State}
    (refused : ∀ b, P (b, s))
    (owner : ∀ k : RequestKind, body.length = k.length → P (ownerReply k seq body s)) :
    P (answer kind seq body s) := by
  unfold answer
  split
  · exact refused _
  · next k _ =>
    split
    · exact refused _
    · next hl =>
      split
      · exact refused _
      · exact owner k (Decidable.not_not.mp hl)

/-! ### A request frame at the part -/

theorem RequestKind.code_range (k : RequestKind) : 1 ≤ k.code.toNat ∧ k.code.toNat ≤ 0x3F := by
  cases k <;> decide

theorem RequestKind.length_le (k : RequestKind) : k.length ≤ 200 := by cases k <;> decide

/-- A running part with an empty reply slot takes a request frame: the answer's state, with the reply in
the slot. -/
theorem State.requestFrame_ready {s : State} (h : s.console.reply = none) {kind seq : Byte} {body : List Byte}
    (hl : body.length ≤ 200) (hk : 1 ≤ kind.toNat ∧ kind.toNat ≤ 0x3F) :
    s.requestFrame kind seq body =
      { (answer kind seq body s.huntConsole).2 with
        console := { (answer kind seq body s.huntConsole).2.console with
          reply := some { kind := kind + 0x80, seq := seq, body := (answer kind seq body s.huntConsole).1 } } } := by
  simp [State.requestFrame, State.checkedFrame, State.offerRequest, hl, hk, h]

/-- A request frame is discarded while the reply slot is occupied. -/
theorem State.requestFrame_occupied {s : State} (h : s.console.reply ≠ none) (kind seq : Byte)
    (body : List Byte) : s.requestFrame kind seq body = s.huntConsole := by
  obtain ⟨r, hr⟩ := Option.ne_none_iff_exists'.mp h
  simp [State.requestFrame, State.checkedFrame, State.offerRequest, hr]

/-- A request of the table with the right length, taken while no export runs, is its owner's. -/
theorem State.request_open {s : State} (h : s.Open) (k : RequestKind) (seq : Byte) {body : List Byte}
    (hl : body.length = k.length) {b : List Byte} {t : State} (ho : ownerReply k seq body s.huntConsole = (b, t))
    (hr : t.console.rx = .hunt) :
    s.act (·.requestFrame k.code seq body) = .next (t.replied k.code seq b).transmit := by
  have ha : answer k.code seq body s.huntConsole = (b, t) := by
    rw [answer_code k seq body _ hl, ← ho]
    simp [h.2]
  rw [State.act_running h.1.1, State.requestFrame_ready h.1.2 (hl ▸ k.length_le) k.code_range, ha]
  simp [State.replied, hr]

/-- A request that its owner answers without an effect. -/
theorem State.request_read {s : State} (h : s.Open) (k : RequestKind) (seq : Byte) {body : List Byte}
    (hl : body.length = k.length) {b : List Byte}
    (ho : ownerReply k seq body s.huntConsole = (b, s.huntConsole)) :
    s.act (·.requestFrame k.code seq body) = .next (s.replied k.code seq b).transmit :=
  State.request_open (t := s.huntConsole) h k seq hl ho rfl

end Sys2Proof.Machine
end

