-- ==== Sys2Proof/Laws/Steps.lean ====
section
/-! SUPPORT. The case analysis of a command and of a step over the operations they run: what every
operation keeps, every command and every step keep. -/

namespace Sys2Proof.Machine

/-- A property that the transmitters' choice keeps, and that every operation gives its result from `s`,
holds of the state that any command answers in `s`. -/
theorem exec_induct {P : State → Prop} {s : State} (c : Instr)
    (transmit : ∀ u, P u → P u.transmit) (self : P s)
    (beginHold : ∀ h, P (s.beginHold h)) (resetEnds : ∀ pins h, P (s.resetEnds pins h))
    (meterCharacter : ∀ i c g, P (s.meterCharacter i c g))
    (validFrame : ∀ i f, P ((s.huntMeter i).validFrame i f)) (dropFrame : ∀ i, P (s.dropMeterFrame i))
    (meterGap : ∀ i, P (s.meterGapExpiry i)) (meterBreak : ∀ i, P (s.meterBreak i))
    (alive : ∀ i, P (s.aliveExpiry i)) (returns : P s.returnExpiry) (reading : P s.takeReading)
    (freshness : P s.freshnessTick) (freeze : ∀ p, P (s.freezeExpiry p)) (clock : P s.clockTick)
    (stepTick : ∀ st, P (s.stepTick st)) (hold : ∀ st, P (s.holdExpiry st))
    (release : ∀ st, P (s.releaseTick st)) (refresh : ∀ st, P (s.refreshExpiry st)) (order : P s.orderSent)
    (dark : P s.darkExpiry) (consoleCharacter : ∀ c g, P (s.consoleCharacter c g)) (hunt : P s.huntConsole)
    (consoleGap : P s.consoleGapExpiry) (frameSent : ∀ pins, P (s.frameSent pins))
    (request : ∀ kind seq body, P (s.requestFrame kind seq body)) :
    ∃ t, exec c s = .next t ∧ P t := by
  have act : ∀ f : State → State, P (f s) → ∃ t, s.act f = .next t ∧ P t := by
    intro f hf
    unfold State.act
    split
    · exact ⟨_, rfl, self⟩
    · exact ⟨_, rfl, transmit _ hf⟩
  have asked : ∀ kind seq body, ∃ t, s.act (·.requestFrame kind seq body) = .next t ∧ P t :=
    fun kind seq body => act (·.requestFrame kind seq body) (request kind seq body)
  cases c
  case powerOn => exact ⟨_, rfl, transmit _ (resetEnds _ _)⟩
  case pinReset => exact ⟨_, rfl, transmit _ (resetEnds _ _)⟩
  case resetNLow => exact ⟨_, rfl, beginHold _⟩
  case supplyBelowRange => exact ⟨_, rfl, beginHold _⟩
  case meterCharacterReceived i c g => exact act (·.meterCharacter i c g) (meterCharacter i c g)
  case meterReadingFrame i f => exact act (fun t => (t.huntMeter i).validFrame i f) (validFrame i f)
  case badFrame i => exact act (·.dropMeterFrame i) (dropFrame i)
  case meterFrameGapExpiry i => exact act (·.meterGapExpiry i) (meterGap i)
  case meterLineBreak i => exact act (·.meterBreak i) (meterBreak i)
  case aliveTimerExpiry i => exact act (·.aliveExpiry i) (alive i)
  case returnTimerExpiry => exact act State.returnExpiry returns
  case reading => exact act State.takeReading reading
  case freshnessTick => exact act State.freshnessTick freshness
  case freezeTimerExpiry p => exact act (·.freezeExpiry p) (freeze p)
  case venueClockTick => exact act State.clockTick clock
  case stepTimerTick st => exact act (·.stepTick st) (stepTick st)
  case holdTimerExpiry st => exact act (·.holdExpiry st) (hold st)
  case releaseTimerTick st => exact act (·.releaseTick st) (release st)
  case refreshTimerExpiry st => exact act (·.refreshExpiry st) (refresh st)
  case stageOrderSent => exact act State.orderSent order
  case darkTimerExpiry => exact act State.darkExpiry dark
  case consoleCharacterReceived c g => exact act (·.consoleCharacter c g) (consoleCharacter c g)
  case consoleFrameDiscarded => exact act State.huntConsole hunt
  case consoleFrameGapExpiry => exact act State.consoleGapExpiry consoleGap
  case consoleLineBreak => exact act State.consoleBreak hunt
  case consoleFrameSent pins => exact act (·.frameSent pins) (frameSent pins)
  all_goals exact asked _ _ _

/-- The case analysis of a step: a property that the queue's front and the idle tick do not touch, and
that every command gives, holds after every step. -/
theorem step_induct {P : State → Prop} {s t : State} (h : step s = .next t)
    (command : ∀ c rest u, exec c { s with pending := rest } = .next u → P u)
    (idleHeld : s.held = true → P s) (idle : s.held = false → P (State.transmit { s with now := s.now + 1 })) :
    P t := by
  unfold step at h
  split at h
  · cases h
    unfold State.idle
    split
    · next hh => exact idleHeld hh
    · next hh => exact idle (by simpa using hh)
  · exact command _ _ _ h

end Sys2Proof.Machine
end

