-- ==== Sys2Proof/Laws/Windows.lean ====
section
/-! SUPPORT. What the window engine's operations do to the slot they work on, and that they leave every
other slot alone. -/

namespace Sys2Proof.Machine

/-! ### Slots through operations that leave the point table alone -/

theorem State.slotAt_congr {s t : State} (h : t.points = s.points) (p : SetIx) (w : Way) :
    t.slotAt p w = s.slotAt p w := by
  simp [State.slotAt, h]

theorem State.lru_putSlot (s : State) (p q : SetIx) (w : Way) (x : Option Slot) :
    ((s.putSlot p w x).points[q]).lru = (s.points[q]).lru := by
  by_cases h : q = p
  · subst h; rw [State.points_putSlot_self]; simp
  · rw [State.points_putSlot_of_ne s w x h]

theorem State.lru_touch_self (s : State) (p : SetIx) (w : Way) : ((s.touch p w).points[p]).lru = w.other := by
  simp [State.touch]

/-- Writing back what stands in a way changes nothing. -/
theorem State.putSlot_slotAt (s : State) (p : SetIx) (w : Way) : s.putSlot p w (s.slotAt p w) = s := by
  simp [State.putSlot, State.slotAt]

/-! ### The freshness tick -/

/-- What a freshness tick makes of a slot: a fresh slot's count rises, and it turns stale at its role's
threshold (R73, R74). -/
def Slot.ticked (sl : Slot) (strap : Fin 2) : Slot :=
  if sl.win.stale then sl
  else
    { sl with
      win := { sl.win with
        fresh := sl.win.fresh + 1, stale := decide (staleTicks strap sl.use ≤ sl.win.fresh + 1) } }

/-- A freshness tick at one way ticks its slot and leaves every other slot alone. -/
theorem State.tickSlot_slotAt (s : State) (p q : SetIx) (w v : Way) :
    (s.tickSlot p w).slotAt q v =
      if q = p ∧ v = w then (s.slotAt p w).map (·.ticked s.straps.stale) else s.slotAt q v := by
  unfold State.tickSlot
  cases h : s.slotAt p w with
  | none => split <;> simp_all
  | some sl =>
    simp only
    split
    · next hs =>
      split
      · next hq => obtain ⟨rfl, rfl⟩ := hq; simp [Slot.ticked, hs, h]
      · rfl
    · next hs =>
      split
      · next ht =>
        rw [State.slotAt_congr (State.tellStale_points _ _ _)]
        rw [State.slotAt_congr (State.offer_points _ _), State.slotAt_putSlot]
        simp [Slot.ticked, hs, ht]
      · next ht =>
        rw [State.slotAt_putSlot]
        simp only [Option.map, Slot.ticked, hs, Bool.false_eq_true, if_false, ht, decide_false]

theorem State.tickSlot_lru (s : State) (p q : SetIx) (w : Way) :
    ((s.tickSlot p w).points[q]).lru = (s.points[q]).lru := by
  have h : ∃ x, (s.tickSlot p w).points = (s.putSlot p w x).points := by
    unfold State.tickSlot
    split
    · next h => exact ⟨none, by rw [← h, s.putSlot_slotAt]⟩
    · next sl h =>
      split
      · exact ⟨some sl, by rw [← h, s.putSlot_slotAt]⟩
      · split
        · exact ⟨_, by rw [State.tellStale_points, State.offer_points]⟩
        · exact ⟨_, rfl⟩
  obtain ⟨x, hx⟩ := h
  simp only [hx]
  exact s.lru_putSlot p q w x

/-! ### Stages 4 to 8 of a reading -/

/-- A second, an empty second and the placed second keep a slot's declaration and what stage 6 writes. -/
theorem Bench.closeMinute_keeps (b : Bench) (dark : Bool) (lim : LimitSet) :
    let sl := (b.closeMinute dark lim).slot
    sl.point = b.slot.point ∧ sl.use = b.slot.use ∧ sl.locked = b.slot.locked ∧
      sl.win.ring = b.slot.win.ring ∧ sl.win.lastStamp = b.slot.win.lastStamp ∧
      sl.win.stale = b.slot.win.stale ∧ sl.win.battery = b.slot.win.battery := by
  unfold Bench.closeMinute
  simp only
  split <;> exact ⟨rfl, rfl, rfl, rfl, rfl, rfl, rfl⟩

theorem Bench.second_keeps (b : Bench) (dark : Bool) (lim : LimitSet) (e : Option Nat) (cur : OpenMinute) :
    let sl := (b.second dark lim e cur).slot
    sl.point = b.slot.point ∧ sl.use = b.slot.use ∧ sl.locked = b.slot.locked ∧
      sl.win.ring = pushSecond b.slot.win.ring e ∧ sl.win.lastStamp = b.slot.win.lastStamp ∧
      sl.win.stale = b.slot.win.stale ∧ sl.win.battery = b.slot.win.battery := by
  unfold Bench.second
  simp only
  split
  · exact Bench.closeMinute_keeps _ dark lim
  · exact ⟨rfl, rfl, rfl, rfl, rfl, rfl, rfl⟩

theorem Bench.emptySeconds_keeps (b : Bench) (dark : Bool) (lim : LimitSet) (n : Nat) :
    let sl := (b.emptySeconds dark lim n).slot
    sl.point = b.slot.point ∧ sl.use = b.slot.use ∧ sl.locked = b.slot.locked ∧
      sl.win.lastStamp = b.slot.win.lastStamp ∧ sl.win.stale = b.slot.win.stale ∧
      sl.win.battery = b.slot.win.battery := by
  induction n generalizing b with
  | zero => exact ⟨rfl, rfl, rfl, rfl, rfl, rfl⟩
  | succ n ih =>
    obtain ⟨h1, h2, h3, h4, h5, h6⟩ := ih (b.second dark lim none b.slot.win.cur)
    obtain ⟨g1, g2, g3, _, g4, g5, g6⟩ := b.second_keeps dark lim none b.slot.win.cur
    exact ⟨h1.trans g1, h2.trans g2, h3.trans g3, h4.trans g4, h5.trans g5, h6.trans g6⟩

/-- Stages 4 and 5 put the advanced slot in its way. -/
theorem State.advanceTo_slotAt (s : State) (p q : SetIx) (w v : Way) (sl : Slot) (lim : LimitSet) (n : Nat)
    (r : Reading) :
    (s.advanceTo p w sl lim n r).slotAt q v =
      if q = p ∧ v = w then
        some (((({ slot := sl, reports := s.reports } : Bench).emptySeconds s.standby.dark lim n).place
          s.standby.dark lim r).slot)
      else s.slotAt q v := by
  unfold State.advanceTo
  simp only
  rw [State.slotAt_putSlot]
  rfl

/-- What stage 6 writes into a slot (R67). -/
def Slot.marked (sl : Slot) (r : Reading) : Slot :=
  { sl with win := { sl.win with lastStamp := some r.stamp, fresh := 0, stale := false, battery := r.batt } }

/-- Stage 6 marks the slot and touches its way; what it tells other blocks leaves the table alone
(R67, R40). -/
theorem State.refreshSlot_points (s : State) (p : SetIx) (w : Way) (r : Reading) :
    (s.refreshSlot p w r).points =
      match s.slotAt p w with
      | some sl => ((s.putSlot p w (some (sl.marked r))).touch p w).points
      | none => s.points := by
  unfold State.refreshSlot
  cases s.slotAt p w with
  | none => rfl
  | some sl =>
    simp only
    split <;> split <;> simp [Slot.marked]

theorem State.refreshSlot_slotAt (s : State) (p q : SetIx) (w v : Way) (r : Reading) :
    (s.refreshSlot p w r).slotAt q v =
      if q = p ∧ v = w then (s.slotAt p w).map (·.marked r) else s.slotAt q v := by
  have h := s.refreshSlot_points p w r
  cases hs : s.slotAt p w with
  | none =>
    rw [hs] at h
    rw [State.slotAt_congr h]
    split
    · next hq => obtain ⟨rfl, rfl⟩ := hq; simp [hs]
    · rfl
  | some sl =>
    rw [hs] at h
    rw [State.slotAt_congr h, State.slotAt_touch, State.slotAt_putSlot]
    rfl

theorem State.refreshSlot_lru (s : State) (p : SetIx) (w : Way) (r : Reading) {sl : Slot}
    (h : s.slotAt p w = some sl) : ((s.refreshSlot p w r).points[p]).lru = w.other := by
  have hp := s.refreshSlot_points p w r
  rw [h] at hp
  simp only [hp]
  exact State.lru_touch_self ..

/-- Stage 7 stores the figures (R66). -/
theorem State.storeFigures_slotAt (s : State) (p q : SetIx) (w v : Way) (lim : LimitSet) :
    (s.storeFigures p w lim).slotAt q v =
      if q = p ∧ v = w then (s.slotAt p w).map (·.figures lim) else s.slotAt q v := by
  unfold State.storeFigures
  rw [State.slotAt_putSlot]

/-- What stage 8 keeps of the slot it works on: its declaration, its rings and what stages 6 and 7 wrote. -/
def Slot.SameFigures (a b : Slot) : Prop :=
  a.point = b.point ∧ a.use = b.use ∧ a.locked = b.locked ∧ a.minute = b.minute ∧ a.win.ring = b.win.ring ∧
  a.win.cur = b.win.cur ∧ a.win.minutes = b.win.minutes ∧ a.win.lastStamp = b.win.lastStamp ∧
  a.win.l1 = b.win.l1 ∧ a.win.pk = b.win.pk ∧ a.win.fresh = b.win.fresh ∧ a.win.stale = b.win.stale ∧
  a.win.battery = b.win.battery

theorem Slot.SameFigures.refl (a : Slot) : a.SameFigures a :=
  ⟨rfl, rfl, rfl, rfl, rfl, rfl, rfl, rfl, rfl, rfl, rfl, rfl, rfl⟩

theorem Slot.SameFigures.trans {a b c : Slot} (h : a.SameFigures b) (h' : b.SameFigures c) : a.SameFigures c := by
  unfold Slot.SameFigures at *
  simp_all

theorem Slot.exceedStep_same (sl : Slot) (x : Nat) (kind : Option LimitKind) :
    (sl.exceedStep x kind).1.SameFigures sl := by
  unfold Slot.exceedStep
  split
  · split
    · exact ⟨rfl, rfl, rfl, rfl, rfl, rfl, rfl, rfl, rfl, rfl, rfl, rfl, rfl⟩
    · split <;> exact ⟨rfl, rfl, rfl, rfl, rfl, rfl, rfl, rfl, rfl, rfl, rfl, rfl, rfl⟩
  · split <;> exact ⟨rfl, rfl, rfl, rfl, rfl, rfl, rfl, rfl, rfl, rfl, rfl, rfl, rfl⟩

theorem Slot.exceedEnd_same (sl : Slot) : sl.exceedEnd.1.SameFigures sl := by
  unfold Slot.exceedEnd
  split <;> exact ⟨rfl, rfl, rfl, rfl, rfl, rfl, rfl, rfl, rfl, rfl, rfl, rfl, rfl⟩

theorem Slot.scored_same (sl : Slot) (lim : LimitSet) (r : Reading) : (sl.scored lim r).SameFigures sl :=
  ⟨rfl, rfl, rfl, rfl, rfl, rfl, rfl, rfl, rfl, rfl, rfl, rfl, rfl⟩

/-- How an operation on way w of set p may change the point table: that slot keeps its figures, every
other slot and every LRU mark stands. -/
def SlotWork (s t : State) (p : SetIx) (w : Way) : Prop :=
  (∀ sl, s.slotAt p w = some sl → ∃ sl', t.slotAt p w = some sl' ∧ sl'.SameFigures sl) ∧
  (s.slotAt p w = none → t.slotAt p w = none) ∧
  (∀ q v, ¬(q = p ∧ v = w) → t.slotAt q v = s.slotAt q v) ∧
  ∀ q : SetIx, (t.points[q]).lru = (s.points[q]).lru

theorem SlotWork.of_points {s t : State} (h : t.points = s.points) (p : SetIx) (w : Way) : SlotWork s t p w :=
  ⟨fun sl hs => ⟨sl, (State.slotAt_congr h p w).trans hs, .refl sl⟩,
    fun hs => (State.slotAt_congr h p w).trans hs, fun q v _ => State.slotAt_congr h q v,
    fun q => by rw [h]⟩

theorem SlotWork.trans {s t u : State} {p : SetIx} {w : Way} (h : SlotWork s t p w) (h' : SlotWork t u p w) :
    SlotWork s u p w := by
  refine ⟨fun sl hs => ?_, fun hs => h'.2.1 (h.2.1 hs), fun q v hq => (h'.2.2.1 q v hq).trans (h.2.2.1 q v hq),
    fun q => (h'.2.2.2 q).trans (h.2.2.2 q)⟩
  obtain ⟨sl', h1, h2⟩ := h.1 sl hs
  obtain ⟨sl'', h3, h4⟩ := h'.1 sl' h1
  exact ⟨sl'', h3, h4.trans h2⟩

theorem SlotWork.putSlot (s : State) (p : SetIx) (w : Way) {sl sl' : Slot} (h : s.slotAt p w = some sl)
    (hs : sl'.SameFigures sl) : SlotWork s (s.putSlot p w (some sl')) p w := by
  refine ⟨fun x hx => ⟨sl', State.slotAt_putSlot_self .., ?_⟩, fun hn => ?_, fun q v hq => ?_, fun q => ?_⟩
  · rw [h] at hx; cases hx; exact hs
  · rw [h] at hn; cases hn
  · exact State.slotAt_putSlot_of_ne s _ hq
  · exact State.lru_putSlot ..

theorem State.stepExceed_work (s : State) (p : SetIx) (w : Way) {f : Slot → Slot × List Notice}
    (hf : ∀ sl, (f sl).1.SameFigures sl) : SlotWork s (s.stepExceed p w f) p w := by
  unfold State.stepExceed
  cases h : s.slotAt p w with
  | none => exact .of_points rfl p w
  | some sl => exact (SlotWork.putSlot s p w h (hf sl)).trans (.of_points rfl p w)

theorem State.score_work (s : State) (p : SetIx) (w : Way) (z : Zone) (lim : LimitSet) (r : Reading) :
    SlotWork s (s.score p w z lim r) p w := by
  unfold State.score
  cases h : s.slotAt p w with
  | none => exact .of_points rfl p w
  | some sl =>
    exact SlotWork.putSlot { s with
      reports := s.reports.countScore z lim sl r
      sched := s.sched.score z (overShort lim sl.win.l1) (headroom lim sl.win.l1 sl.win.pk) } p w h
      (Slot.scored_same sl lim r)

theorem State.workFixed_work (s : State) (p : SetIx) (w : Way) (z : Zone) (lim : LimitSet) (r : Reading) :
    SlotWork s (s.workFixed p w z lim r) p w := by
  unfold State.workFixed
  split
  · exact .of_points rfl p w
  · next sl _ =>
    simp only
    have h2 := (s.score_work p w z lim r).trans ((s.score p w z lim r).stepExceed_work p w
      (f := fun t => t.exceedStep (excess lim sl.win.l1 sl.win.pk r.peak)
        (dominantKind lim sl.win.l1 sl.win.pk r.peak)) fun t => t.exceedStep_same _ _)
    split
    · exact h2.trans (.of_points (by simp) p w)
    · exact h2.trans (.of_points (by simp) p w)

theorem State.workStage_work (s : State) (p : SetIx) (w : Way) (st : Stage) (r : Reading) :
    SlotWork s (s.workStage p w st r) p w := by
  unfold State.workStage
  simp only
  have h := s.stepExceed_work p w Slot.exceedEnd_same
  split
  · exact h.trans (.of_points (by simp [State.withEngine]) p w)
  · exact h.trans (.of_points (by simp) p w)

/-- Stage 8 keeps the slot's figures, every other slot and the LRU marks. -/
theorem State.roleWork_work (s : State) (p : SetIx) (w : Way) (u : Use) (lim : LimitSet) (r : Reading) :
    SlotWork s (s.roleWork p w u lim r) p w := by
  unfold State.roleWork
  split
  · split
    · exact .of_points rfl p w
    · exact s.workFixed_work ..
  · split
    · exact .of_points rfl p w
    · exact s.workFixed_work ..
  · refine SlotWork.trans ?_ (State.stepExceed_work _ p w Slot.exceedEnd_same)
    split
    · exact .of_points rfl p w
    · exact s.score_work ..
  · exact s.workStage_work ..

end Sys2Proof.Machine
end

