-- ==== Sys2Proof/WellFormed.lean ====
section
/-! DEFINITION. Which terms of `Instr` are commands the lines can deliver under that row: a body that
fits a frame (R143), a kind that is a request's (R147), and, where two rows share one request kind, the
byte that tells the rows apart (log entry 8). -/

namespace Sys2Proof

/-- The kinds of the request table of R149. -/
def tableKinds : List Byte :=
  [0x01, 0x02, 0x03, 0x04, 0x05, 0x10, 0x11, 0x12, 0x13, 0x20, 0x21, 0x22, 0x23,
   0x30, 0x31, 0x32, 0x38, 0x3A, 0x3B]

/-- A frame's body is at most 200 bytes (R143). -/
def bodyFits (body : List Byte) : Bool := body.length ≤ 200

/-- A request's kind lies in 0x01..0x3F (R143, R147). -/
def requestKind (kind : Byte) : Bool := 1 ≤ kind.toNat && kind.toNat ≤ 0x3F

/-- The body chooses the second of two rows that share a kind: byte `at_` of it is 1. -/
def picks (body : List Byte) (at_ : Nat) : Bool := body[at_]? == some 1

/-- The terms of `Instr` that stand for a command of their row. -/
def WellFormed (i : Instr) : Bool :=
  match i with
  | .powerOn _ => true
  | .pinReset _ => true
  | .resetNLow => true
  | .supplyBelowRange => true
  | .meterCharacterReceived _ _ _ => true
  | .meterReadingFrame _ _ => true
  | .badFrame _ => true
  | .meterFrameGapExpiry _ => true
  | .meterLineBreak _ => true
  | .aliveTimerExpiry _ => true
  | .returnTimerExpiry => true
  | .reading => true
  | .freshnessTick => true
  | .freezeTimerExpiry _ => true
  | .venueClockTick => true
  | .stepTimerTick _ => true
  | .holdTimerExpiry _ => true
  | .releaseTimerTick _ => true
  | .refreshTimerExpiry _ => true
  | .stageOrderSent => true
  | .darkTimerExpiry => true
  | .consoleCharacterReceived _ _ => true
  | .consoleFrameDiscarded => true
  | .consoleFrameGapExpiry => true
  | .consoleLineBreak => true
  | .consoleFrameSent _ => true
  | .requestDiscarded kind _ body => requestKind kind && bodyFits body
  | .unknownKind kind _ body => requestKind kind && !(tableKinds.contains kind) && bodyFits body
  | .status _ body => bodyFits body
  | .setTime _ body => bodyFits body
  | .getTime _ body => bodyFits body
  | .start _ body => bodyFits body
  | .restartFull _ body => bodyFits body && !(picks body 0)
  | .restartEnforcement _ body => bodyFits body && picks body 0
  | .declarePoint _ body => bodyFits body
  | .releasePoint _ body => bodyFits body
  | .readPoint _ body => bodyFits body
  | .setCoupling _ body => bodyFits body
  | .postPeriod _ body => bodyFits body
  | .readPeriod _ body => bodyFits body
  | .recallPeriod _ body => bodyFits body
  | .setFallback _ body => bodyFits body
  | .setStageRates _ body => bodyFits body
  | .readStage _ body => bodyFits body
  | .setDark _ body => bodyFits body
  | .readCounters _ body => bodyFits body && !(picks body 0)
  | .readCountersClear _ body => bodyFits body && picks body 0
  | .exportOne _ body => bodyFits body && !(picks body 2)
  | .exportWalk _ body => bodyFits body && picks body 2
  | .abortExport _ body => bodyFits body

end Sys2Proof
end

