-- ==== Sys2Proof/Tests/Slice0.lean ====
section
/-! SUPPORT. The model's own tests: WellFormed refuses ill-formed terms, single steps answer what the
manual's worked examples and tables say, and for each statement with hypotheses a theorem `witness_…`
shows values that meet them, clause by clause. -/

namespace Sys2Proof.Tests

set_option Elab.async false

open Sys2Proof Sys2Proof.Machine

/-! ### WellFormed -/

/-- A body of 201 bytes (R143: at most 200). -/
def tooLong : List Byte := List.replicate 201 0

theorem test_wellFormed_longBody : WellFormed (.status 0 tooLong) = false := by decide +kernel
theorem test_wellFormed_longestBody : WellFormed (.status 0 (List.replicate 200 0)) = true := by decide +kernel
theorem test_wellFormed_kindZero : WellFormed (.requestDiscarded 0 0 []) = false := by decide +kernel
theorem test_wellFormed_kindAboveRequests : WellFormed (.requestDiscarded 0x40 0 []) = false := by decide +kernel
theorem test_wellFormed_kindOfTheTable : WellFormed (.unknownKind 0x05 0 []) = false := by decide +kernel
theorem test_wellFormed_unknownKind : WellFormed (.unknownKind 0x06 0 []) = true := by decide +kernel
theorem test_wellFormed_restartFull : WellFormed (.restartFull 0 [1]) = false := by decide +kernel
theorem test_wellFormed_restartEnforcement : WellFormed (.restartEnforcement 0 [0]) = false := by decide +kernel
theorem test_wellFormed_readCounters : WellFormed (.readCounters 0 [1]) = false := by decide +kernel
theorem test_wellFormed_readCountersClear : WellFormed (.readCountersClear 0 [0]) = false := by decide +kernel
theorem test_wellFormed_exportOne : WellFormed (.exportOne 0 [0, 0, 1, 0, 0]) = false := by decide +kernel
theorem test_wellFormed_exportWalk : WellFormed (.exportWalk 0 [0, 0, 0, 0, 0]) = false := by decide +kernel

/-! ### Small states -/

/-- The step answers a next state of which `f` is true. -/
def gives (o : Host.Outcome State Fault Refusal) (f : State → Bool) : Bool :=
  match o with
  | .next t => f t
  | .fault _ => false
  | .refused _ => false

/-- The body of the waiting reply. -/
def replyBody (t : State) : Option (List Byte) := t.console.reply.map (·.body)

/-- The frame on the console line. -/
def lineFrame (t : State) : Option ConFrame := t.console.line.map (·.frame)

/-- The part after reset with no order due, so that its idle lines have nothing to send. -/
def quiet : State :=
  { State.reset with engines := Vector.replicate 4 { Engine.reset with due := false } }

/-- `quiet` in auto mode, prefer A. -/
def autoA : State := { quiet with straps := { rate := 2, pref := 2, mode := 0, stale := 0 } }

/-- `quiet` with a notice on the console line, so that notices wait in their queue. -/
def busy : State :=
  { quiet with
    console := { quiet.console with
      line := some { what := .notice, frame := { kind := 0x4F, seq := 0, body := [2, 255, 255] } } } }

/-- `quiet` with one slot in the point table. -/
def withSlot (p : SetIx) (w : Way) (sl : Slot) (s : State) : State := s.putSlot p w (some sl)

/-- A clean slot with an empty record. -/
def bare (p : PointId) (u : Use) (lock : Bool) : Slot :=
  { point := p, use := u, locked := lock, dirty := false, minute := 0, win := WindowRecord.empty }

/-- A slot whose last stamp is 4000. -/
def seen (p : PointId) (u : Use) (lock : Bool) : Slot :=
  { bare p u lock with win := { WindowRecord.empty with lastStamp := some 4000#16 } }

/-- A reading of a point at level 700, peak 930. -/
def reading (p : PointId) (stamp : Word16) : Reading :=
  { point := p, hint := 2, stamp := stamp, level := 700, peak := 930, echo := none, clip := false,
    cal := false, batt := false, overMark := false, overrun := false }

/-- One reading waits. -/
def waiting (r : Reading) (s : State) : State := { s with readings := { queue := [r], holding := none } }

/-- 48 notices wait, none of them routine. -/
def urgent48 : List NoticeEntry := List.replicate 48 { number := 0, notice := .stageSilenced 0 120 }

/-- A notice queue with these entries. -/
def queued (es : List NoticeEntry) : Reports := { queue := es, number := 0, counters := Counters.zero }

/-- An engine of `quiet`. -/
def engine0 : Engine := { Engine.reset with due := false }

/-- `quiet` with stage 3's engine replaced. -/
def withStage3 (e : Engine) : State := quiet.putEngine 3 e

/-- An engine in a state with a reduction, a target and a hold timer. -/
def engineAt (x : EngineState) (a t : Nat) (h : Timer) : Engine :=
  { engine0 with state := x, applied := a, target := t, holdAt := h }

/-- A period of zones 0 to 2 that the evening example posts (05, worked example). -/
def evening (x : PeriodState) : Period :=
  { state := x, start := 68400, stop := 79200, zones := 7, stages := 15, permits := 15, short := 750,
    long := 700, k := 15, ceiling := 1250, fade := 120, margin := 30, outcome := .none, exceed := 0,
    worst := none, validated := true }

/-- `quiet` with the clock set to a count and one period slot written. -/
def scheduled (clock : Nat) (i : SlotIx) (p : Period) : State :=
  { quiet with
    sched := { quiet.sched with
      periods := quiet.sched.periods.set i p, clockSet := true, clock := clock, tickAt := some 3600000 } }

/-- The period in slot 1 is in force and holds zone 0. -/
def inForce (clock : Nat) : State :=
  let s := scheduled clock 1 (evening .inForce)
  { s with sched := { s.sched with zoneHolder := s.sched.zoneHolder.set 0 (some 1) } }

/-! ### Figures (worked examples of 00 and 01) -/

/-- The check value of 00, Frame check. -/
theorem test_check_value :
    crc16 [0x31, 0x32, 0x33, 0x34, 0x35, 0x36, 0x37, 0x38, 0x39] = 0x29B1#16 := by decide +kernel

/-- 01, worked example: a mean of three seconds. -/
theorem test_mean_of_three_seconds :
    minuteLevel (energy 850 + energy 880 + energy 910) 3 = some 886 := by decide +kernel

/-- 01, worked example: a projection (K = 5 and K = 1). -/
theorem test_projection :
    let minute : MinuteRecord :=
      { number := 1, sum := 150720000, count := 60, leq := some 640, long := .notComputed, peak := none,
        cal := 0, clip := 0, thin := false, overrun := false }
    let cur : OpenMinute := { OpenMinute.empty with sum := 200000000, count := 20, elapsed := 20 }
    projection 5 (List.replicate 4 minute) cur (some 669) = some 652 ∧
      projection 1 (List.replicate 4 minute) cur (some 669) = some 681 := by decide +kernel

/-- The limits of the projection example; its figures are x = 2, LONG, h = −2. -/
def limits700 : LimitSet := { short := 700, long := 650, k := 5, ceiling := 1150, margin := 30 }

theorem test_figures_of_the_projection :
    excess limits700 (some 669) (some 652) 980 = 2 ∧
      dominantKind limits700 (some 669) (some 652) 980 = some .long ∧
      headroom limits700 (some 669) (some 652) = some (-2) := by decide +kernel

/-- 01, worked example: a long level at a minute close, and its variant with 10 readings. -/
theorem test_long_level :
    let minute (n l : Nat) : MinuteRecord :=
      { number := 1, sum := n * energy l, count := n, leq := none, long := .notComputed, peak := none,
        cal := 0, clip := 0, thin := false, overrun := false }
    longLevel 3 [minute 20 700, minute 60 670, minute 60 650] = .code 669 ∧
      longLevel 3 [minute 10 700, minute 60 670, minute 60 650] = .insufficient := by decide +kernel

/-! ### Reset commands (R174, R175, R95) -/

/-- HELD-strict: the strict fallback record, and a silent stage link (10, worked example). -/
theorem test_powerOn_heldStrict :
    gives (exec (.powerOn { rate := 0, pref := 0, mode := 3, stale := 0 }) State.reset) (fun t =>
      t.sched.fallback.short == 650 && t.sched.fallback.ceiling == 1150 && t.link.line == none &&
        (t.engine 2).state == .withheld) = true := by decide +kernel

/-- METER_PREF 3 is auto, prefer B (R174): input B is active. -/
theorem test_pinReset_preferB :
    gives (exec (.pinReset { rate := 0, pref := 3, mode := 0, stale := 0 }) busy) (fun t =>
      t.meter.active == .b && t.console.line == none) = true := by decide +kernel

theorem test_resetNLow_holds :
    gives (exec .resetNLow busy) (fun t => t.hold.pin && t.console.line == none) = true := by decide +kernel

theorem test_supplyBelowRange_holds :
    gives (exec .supplyBelowRange quiet) (fun t => t.hold.supply && !t.hold.pin) = true := by decide +kernel

/-! ### Meter inputs (R19 to R35) -/

/-- A reading frame of point 101, hint 2, stamp 4070, level 700, peak 930. -/
def frame101 : MeterFrame :=
  { pointWord := 0x0865, stamp := 4070, level := 700, peak := 930, flags := 0, echo := 0 }

theorem test_meterCharacter_start :
    gives (exec (.meterCharacterReceived .b 0xA5 true) quiet) (fun t =>
      t.meter.rx.b == .collecting [0xA5] 576 && t.meter.rx.a == .hunt) = true := by decide +kernel

theorem test_meterFrame_joinsTheQueue :
    gives (exec (.meterReadingFrame .a frame101) quiet) (fun t =>
      t.readings.queue == [reading 101 4070] && t.meter.alive.a == some 10800000) = true := by decide +kernel

/-- 02, worked example: an overrun; reading c overwrites b in the holding slot. -/
theorem test_meterFrame_overrun :
    gives (exec (.meterReadingFrame .a frame101)
      { quiet with readings :=
        { queue := List.replicate 64 (reading 7 1), holding := some { reading 412 8805 with overrun := true } } })
      (fun t =>
        t.readings.queue.length == 64 && t.reports.counters.get overruns == 1 &&
          t.readings.holding == some { reading 101 4070 with overrun := true }) = true := by decide +kernel

theorem test_badFrame_counted :
    gives (exec (.badFrame .b) quiet) (fun t =>
      t.reports.counters.device.toList == [0, 1, 0, 0, 0, 0, 0, 0, 0]) = true := by decide +kernel

/-- A receiver of input A that has collected one byte. -/
def collecting : State :=
  { quiet with meter := { quiet.meter with rx := { a := .collecting [0xA5] 576, b := .hunt } } }

theorem test_meterGap_drops :
    gives (exec (.meterFrameGapExpiry .a) collecting) (fun t =>
      t.meter.rx.a == .hunt && t.reports.counters.get (.device 0) == 1) = true := by decide +kernel

theorem test_meterBreak_inHuntDoesNothing :
    gives (exec (.meterLineBreak .b) collecting) (fun t => t == collecting) = true := by decide +kernel

/-- 02, worked example: failover and return: both inputs alive, A active. -/
def bothAlive : State :=
  { autoA with meter := { autoA.meter with alive := { a := some 100, b := some 200 } } }

theorem test_aliveExpiry_failover :
    gives (exec (.aliveTimerExpiry .a) bothAlive) (fun t =>
      t.meter.active == .b && lineFrame t == some { kind := 0x47, seq := 0, body := [0, 1, 0, 2] }) = true := by
  decide +kernel

theorem test_returnTimer_returns :
    gives (exec .returnTimerExpiry
      { bothAlive with meter := { bothAlive.meter with active := .b, returnAt := some 100 } }) (fun t =>
      t.meter.active == .a && lineFrame t == some { kind := 0x47, seq := 0, body := [1, 0, 2, 3] }) = true := by
  decide +kernel

/-! ### Readings and freshness (03 and 04) -/

/-- 03, worked example: an eviction; way 0 holds 837, way 1 holds 101. -/
def set5 : State :=
  withSlot 5 .one (seen 101 (.boundary 2) true)
    (withSlot 5 .zero
      { bare 837 (.roaming 2) false with
        dirty := true, minute := 37
        win := { WindowRecord.empty with secs := 15, worstL1 := some 720, worstPeak := some 1034 } } busy)

theorem test_reading_evicts :
    gives (exec .reading (waiting (reading 405 3121) set5)) (fun t =>
      (t.slotAt 5 .zero).map (fun sl => (sl.point, sl.use, sl.dirty, sl.minute)) ==
          some (405, .roaming 2, false, 0) &&
        t.reports.queue.map (·.notice.body) ==
          [[0x45, 3, 3, 2, 37, 0, 0, 0, 15, 0, 0xD0, 2, 0x0A, 4, 0]]) = true := by decide +kernel

theorem test_reading_heldBackByAFullQueue :
    gives (exec .reading (waiting (reading 405 3120) { set5 with reports := queued urgent48 })) (fun t =>
      t.points == set5.points && t.reports.counters.get tableBusyRefusals == 1 &&
        t.reports.queue.length == 48) = true := by decide +kernel

/-- 04: the fourth tick turns a BOUNDARY slot stale with the 2 s strap, and freezes its set. -/
theorem test_freshnessTick_stale :
    gives (exec .freshnessTick
      (withSlot 5 .one
        { seen 101 (.boundary 2) true with
          win := { (seen 101 (.boundary 2) true).win with fresh := 3 } } quiet)) (fun t =>
      t.control.freeze[(5 : SetIx)] == .frozen (1800000 + 216000000) &&
        lineFrame t == some { kind := 0x42, seq := 0, body := [101, 0, 0, 2, 1, 0xA0, 0x0F] }) = true := by
  decide +kernel

/-! ### Limit schedule (05, worked example) -/

/-- At 79 200 slot 1 ends, slots 2 and 3 take force, slot 4 is rejected and slot 5 is pending. -/
def at79199 : State :=
  let p (x : PeriodState) (a b : Nat) (z : BitVec 8) (st pm : BitVec 4) (h l k c f : Nat) : Period :=
    { evening x with start := a, stop := b, zones := z, stages := st, permits := pm, short := h, long := l,
                     k := k, ceiling := c, fade := f, validated := x == .pending }
  let s := scheduled 79199 1 { evening .inForce with exceed := 37, worst := some (-12) }
  let ps := (((s.sched.periods.set 2 (p .pending 79200 84600 7 0 0 700 650 10 1200 120)).set 3
    (p .waiting 79200 84600 0 15 15 700 650 10 1200 120)).set 4 (p .waiting 81000 84600 0 8 0 0 0 0 0 60)).set 5
    (p .waiting 82680 84600 0 7 0 700 650 10 1200 120)
  { s with
    console := busy.console
    sched := { s.sched with
      periods := ps, walk := 2
      zoneHolder := ((s.sched.zoneHolder.set 0 (some 1)).set 1 (some 1)).set 2 (some 1)
      stageHolder := Vector.replicate 4 (some 1) } }

theorem test_clockTick_evening :
    gives (exec .venueClockTick at79199) (fun t =>
      t.sched.walk == 5 && (allSlots.take 6).map (fun i => (t.sched.period i).state) ==
          [.empty, .retired, .inForce, .inForce, .retired, .pending] &&
        (t.sched.period 4).outcome == .rejected && t.sched.zoneHolder[(1 : Zone)] == some 2 &&
        t.sched.stageHolder[(3 : Stage)] == some 3 && t.reports.queue.map (·.notice.kind) == [0x48, 0x48]) = true := by
  decide +kernel

theorem test_recall_pendingAtTheWalk :
    gives (exec (.recallPeriod 9 [5])
      { scheduled 79400 5 (evening .pending) with
        console := busy.console, sched := { (scheduled 79400 5 (evening .pending)).sched with walk := 5 } })
      (fun t =>
        t.sched.walk == 6 && t.sched.stall && replyBody t == some [0, 5, 1, 5] &&
          t.reports.queue.map (·.notice.kind) == [0x48, 0x49]) = true := by decide +kernel

theorem test_post_pendingAtTheWalk :
    gives (exec (.postPeriod 9
      (u8 6 ++ u32 81000 ++ u32 84600 ++ [0, 8, 0] ++ u16 700 ++ u16 650 ++ u8 10 ++ u16 1200 ++ u16 60 ++ u8 30))
      { scheduled 79410 5 (evening .retired) with
        sched := { (scheduled 79410 5 (evening .retired)).sched with walk := 6, stall := true } }) (fun t =>
      replyBody t == some [0, 6, 3, 0] && t.sched.stall == false) = true := by decide +kernel

theorem test_setTime_clockJump :
    gives (exec (.setTime 9 (u32 70000)) (inForce 70301)) (fun t =>
      replyBody t == some ([11, 1] ++ u32 70301) && t.sched.clock == 70301) = true := by decide +kernel

theorem test_setTime_clips :
    gives (exec (.setTime 9 (u32 68399)) (inForce 68699)) (fun t =>
      replyBody t == some ([0, 1] ++ u32 68699) && t.sched.clock == 68399 && (t.sched.period 1).start == 68399) =
      true := by decide +kernel

/-- 08, worked example: status, clock state, count, walk position and stall mark, 8 bytes. -/
theorem test_getTime :
    gives (exec (.getTime 0x2C []) (scheduled 66600 0 (evening .pending))) (fun t =>
      lineFrame t == some { kind := 0x83, seq := 0x2C, body := [0, 1, 0x28, 4, 1, 0, 0, 0] }) = true := by
  decide +kernel

theorem test_readPeriod_held :
    gives (exec (.readPeriod 9 [1]) (inForce 70000)) (fun t =>
      (replyBody t).map (fun b => (b.take 3, b.drop 29)) == some ([0, 1, 4], [1, 0])) = true := by decide +kernel

theorem test_setFallback_clamps :
    gives (exec (.setFallback 9 (u16 0 ++ u16 2000 ++ u8 0 ++ u16 9999 ++ u8 0xFF ++ u16 5 ++ u8 200)) quiet) (fun t =>
      replyBody t ==
        some (u8 0 ++ u16 300 ++ u16 1400 ++ u8 1 ++ u16 1500 ++ u8 15 ++ u16 10 ++ u8 100)) = true := by
  decide +kernel

/-! ### Attribution and needs (06, worked example) -/

/-- Three stages are coupled to set 5; stage 0 applies 20 and carries a need of 20 for set 9. -/
def coupled : State :=
  let row (a : Option Nat) : Vector (Option Nat) 16 := (Vector.replicate 16 none).set 5 a
  let s := withSlot 5 .one (seen 101 (.boundary 2) true) quiet
  let m := withSlot 0 .zero (bare 0 (.stage 0) false) (withSlot 1 .zero (bare 1 (.stage 1) false)
    (withSlot 2 .zero (bare 2 (.stage 2) false) (withSlot 3 .zero (bare 3 (.stage 3) false) s)))
  { m.putEngine 0 { engine0 with state := .holding, applied := 20, target := 20 } with
    control :=
      { coupling := Vector.ofFn fun st =>
          row (if st = 0 then some 280 else if st = 1 then some 310 else if st = 2 then some 420 else none)
        needs := (Vector.replicate 4 (Vector.replicate 16 0)).set 0 ((Vector.replicate 16 0).set 9 20)
        targets := (Vector.replicate 4 0).set 0 20
        freeze := (Vector.replicate 16 .active) }
    standby := { m.standby with
      lastL1 := Vector.ofFn fun st =>
        if st = 0 then some 985 else if st = 1 then some 1002 else if st = 2 then some 1010 else some 998 } }

theorem test_first_evaluation :
    let t := coupled.evaluate 5 true 30 12 (some (-12))
    (allStages.map fun st => t.control.needAt st 5) = [32, 12, 0, 0] ∧
      (allStages.map fun st => (t.engine st).target) = [32, 12, 0, 0] := by decide +kernel

/-- 06, the same point going stale: the freeze expiry raises coupled needs to at least 30. -/
theorem test_freezeTimer_precaution :
    gives (exec (.freezeTimerExpiry 5)
      { coupled with control := { coupled.control with freeze := coupled.control.freeze.set 5 (.frozen 7) } })
      (fun t =>
        t.control.freeze[(5 : SetIx)] == .precaution &&
          (allStages.map fun st => t.control.needAt st 5) == [30, 30, 30, 0] &&
          (allStages.map fun st => (t.engine st).target) == [30, 30, 30, 0]) = true := by decide +kernel

theorem test_setCoupling_clampsAndReplies :
    gives (exec (.setCoupling 9 ([3, 5] ++ u16 1000)) coupled) (fun t =>
      t.control.couplingAt 3 5 == some 900 && replyBody t == some ([0, 3, 5] ++ u16 900 ++ u16 0 ++ u16 0 ++ [0])) =
      true := by decide +kernel

theorem test_setCoupling_noOwner :
    gives (exec (.setCoupling 9 ([3, 6] ++ u16 100)) coupled) (fun t =>
      replyBody t == some [1] && t.control == coupled.control) = true := by decide +kernel

/-! ### Gain engines and stage link (07, worked example) -/

/-- Stage 3 fades from 38 by steps of 2; its 131st step is the last. -/
def fading (a : Nat) : State :=
  withStage3 { engine0 with
    state := .fading, applied := a, target := 38, granted := false, fadeTime := 20
    fade := some { step := 2, time := 20 } }

theorem test_denied_fade_step :
    ({ engine0 with state := .holding, applied := 38, target := 38 }.permit 0 3 false 20).2 =
      [.fadeStart 3 38 20 2] := by decide +kernel

/-- R125: a tick taken late does not change the phase: the next is due 100 ms after this one was. -/
theorem test_stepTick_fade :
    gives (exec (.stepTimerTick 3) { fading 38 with now := 1000000 }) (fun t =>
      (t.engine 3).applied == 40 && (t.engine 3).stepAt == 720000 && t.link.line == some { st := 3, seq := 1, order := { reduction := 40, mute := false } }) =
      true := by decide +kernel

theorem test_stepTick_silences :
    gives (exec (.stepTimerTick 3) (fading 298)) (fun t =>
      (t.engine 3).state == .silenced && lineFrame t == some { kind := 0x4B, seq := 0, body := [3, 20, 0] } &&
        t.link.line == some { st := 3, seq := 1, order := { reduction := 300, mute := true } }) = true := by
  decide +kernel

/-- HOLDING at 138 with the target 0, as after 5.00 in the example. -/
def held138 : Engine :=
  { engine0 with state := .holding, applied := 138, holdAt := some 54000000, refreshAt := some 57420000 }

theorem test_holdTimer_eases :
    gives (exec (.holdTimerExpiry 3) (withStage3 held138)) (fun t =>
      (t.engine 3).state == .easing && (t.engine 3).releaseAt == some 57600000) = true := by decide +kernel

theorem test_releaseTick_last :
    gives (exec (.releaseTimerTick 3)
      (withStage3 { engine0 with state := .easing, applied := 3, releaseAt := some 154800000 })) (fun t =>
      (t.engine 3).state == .opened && (t.engine 3).applied == 0) = true := by decide +kernel

theorem test_refreshTimer_sendsAnOrder :
    gives (exec (.refreshTimerExpiry 3) (withStage3 { held138 with seq := 177 })) (fun t =>
      t.link.line == some { st := 3, seq := 178, order := { reduction := 138, mute := false } }) = true := by
  decide +kernel

/-- R136: the refresh timer runs for 1 s from the end of the frame. -/
theorem test_stageOrderSent_logs :
    gives (exec .stageOrderSent
      { quiet with
        link := { line := some { st := 1, seq := 4, order := { reduction := 0, mute := false } }, lastStage := some 1 } })
      (fun t =>
        (t.engine 1).refreshAt == some 3600000 && (t.engine 1).last == some { reduction := 0, mute := false } &&
          t.link.line == none) = true := by decide +kernel

/-- 07: at 3.00 the range is 50..108 unmuted, and an echo of 92 matches. -/
theorem test_echo_matches :
    let e : Engine := { engine0 with
      last := some { reduction := 98, mute := false }
      log := [{ order := { reduction := 60, mute := false }, sentAt := 3780000 },
              { order := { reduction := 98, mute := false }, sentAt := 10620000 }] }
    (e.echo 10800000 3 { reduction := 92, mute := false }).1.matches_ = 1 ∧
      (e.echo 10800000 3 { reduction := 109, mute := false }).1.misses = 1 ∧
      (e.echo 10800000 3 { reduction := 92, mute := true }).1.misses = 1 := by decide +kernel

theorem test_setStageRates_clamps :
    gives (exec (.setStageRates 9 [3, 0, 51, 121]) quiet) (fun t => replyBody t == some [0, 3, 1, 50, 120]) =
      true := by decide +kernel

/-- 08, worked example: the READ_STAGE reply has 110 bytes of body, its frame 116. -/
theorem test_readStage_length :
    gives (exec (.readStage 0x2A [3]) quiet) (fun t =>
      (lineFrame t).map (fun f => (f.kind, f.seq, f.bytes.length)) == some (0xB1, 0x2A, 116)) = true := by
  decide +kernel

/-- 10, worked example: the reply to START is OK with marks 0x0F. -/
theorem test_start_releases :
    gives (exec (.start 9 [])
      { quiet with engines := Vector.replicate 4 { engine0 with state := .withheld } }) (fun t =>
      replyBody t == some [0, 0x0F] && t.link.line.isSome && (t.engine 3).state == .opened) = true := by
  decide +kernel

theorem test_start_notHeld :
    gives (exec (.start 9 []) quiet) (fun t => replyBody t == some [12]) = true := by decide +kernel

/-! ### Console link and requests (08) -/

theorem test_consoleCharacter_start :
    gives (exec (.consoleCharacterReceived 0x7E true) autoA) (fun t =>
      t.console.rx == .collecting [0x7E] 1250) = true := by decide +kernel

/-- A console receiver that has collected three bytes. -/
def gathering : State := { quiet with console := { quiet.console with rx := .collecting [0x7E, 0, 1] 15000 } }

theorem test_consoleCharacter_faulty :
    gives (exec (.consoleCharacterReceived 0 false) gathering) (fun t => t == quiet) = true := by decide +kernel

theorem test_consoleGap_discards :
    gives (exec .consoleFrameGapExpiry gathering) (fun t => t.console.rx == .hunt && t.now == 15000) = true := by
  decide +kernel

theorem test_consoleBreak_discards :
    gives (exec .consoleLineBreak gathering) (fun t => t == quiet) = true := by decide +kernel

theorem test_consoleFrameDiscarded :
    gives (exec .consoleFrameDiscarded gathering) (fun t => t == quiet) = true := by decide +kernel

/-- A reply is on the line, and a notice waits. -/
def replying : State :=
  { quiet with
    console := { quiet.console with
      reply := some { kind := 0xB1, seq := 0x2A, body := [1] }
      line := some { what := .reply, frame := { kind := 0xB1, seq := 0x2A, body := [1] } } }
    reports := queued [{ number := 7, notice := .darkLeave .disabled }] }

/-- 08, worked example: at the reply's end the arbiter chooses the head notice. -/
theorem test_consoleFrameSent_thenNotice :
    gives (exec (.consoleFrameSent quiet.straps) replying) (fun t =>
      t.console.reply == none && lineFrame t == some { kind := 0x4F, seq := 7, body := [2, 255, 255] } &&
        t.reports.queue == []) = true := by decide +kernel

/-- 08, worked example: GET_TIME while the slot is occupied is discarded. -/
theorem test_requestDiscarded :
    gives (exec (.requestDiscarded 0x03 0x2B []) replying) (fun t => t == replying) = true := by decide +kernel

theorem test_unknownKind :
    gives (exec (.unknownKind 0x3F 9 []) quiet) (fun t =>
      lineFrame t == some { kind := 0xBF, seq := 9, body := [2] }) = true := by decide +kernel

/-- R158: with the clock unset the condition is 7, and the reply has 17 bytes. -/
theorem test_status :
    gives (exec (.status 0x2F []) autoA) (fun t =>
      replyBody t == some [0, 7, 0, 0, 0, 0, 0, 0, 0, 0, 0, 0, 0, 0, 0, 0, 0]) = true := by decide +kernel

/-- 08, worked example: SET_COUPLING during an export is refused with BUSY. -/
theorem test_busy_duringAnExport :
    gives (exec (.setCoupling 0x2E [0, 5, 0, 0])
      { coupled with
        console := busy.console
        exporter := { Exporter.idle with running := true, list := [], abort := false } }) (fun t =>
      t.console.reply == some { kind := 0x93, seq := 0x2E, body := [3] } && t.control == coupled.control) = true := by
  decide +kernel

theorem test_restartFull_replies :
    gives (exec (.restartFull 5 [0]) quiet) (fun t =>
      t.console.restart == some .full && lineFrame t == some { kind := 0x85, seq := 5, body := [0] }) = true := by
  decide +kernel

theorem test_restartEnforcement_badLength :
    gives (exec (.restartEnforcement 5 [1, 0]) quiet) (fun t =>
      t.console.restart == none && replyBody t == some [13]) = true := by decide +kernel

/-! ### Point requests (03) -/

/-- 03, worked example: a lock that changes ways. -/
theorem test_declare_changesWays :
    gives (exec (.declarePoint 9 [41, 0, 0, 4, 1])
      (withSlot 9 .zero { bare 41 (.boundary 4) false with minute := 20 }
        (withSlot 9 .one { bare 25 (.roaming 4) false with dirty := true } quiet))) (fun t =>
      replyBody t == some [0, 9, 1, 1, 255, 255] &&
        (t.slotAt 9 .one).map (fun sl => (sl.point, sl.locked, sl.minute)) == some (41, true, 20) &&
        (t.slotAt 9 .zero).map (fun sl => (sl.point, sl.dirty)) == some (25, true) &&
        (t.points[(9 : SetIx)]).lru == .zero) = true := by decide +kernel

theorem test_declare_setLocked :
    gives (exec (.declarePoint 9 [57, 0, 0, 4, 1]) (withSlot 9 .one (bare 41 (.boundary 4) true) quiet)) (fun t =>
      replyBody t == some [6]) = true := by decide +kernel

theorem test_release_summary :
    gives (exec (.releasePoint 9 [0x45, 3]) set5) (fun t =>
      replyBody t == some [0] && t.slotAt 5 .zero == none &&
        t.reports.queue.map (·.notice.kind) == [0x44]) = true := by decide +kernel

theorem test_readPoint_unknown :
    gives (exec (.readPoint 9 [0, 0]) quiet) (fun t => replyBody t == some [10]) = true := by decide +kernel

/-! ### Counters, export, standby (09 and 10) -/

theorem test_readCounters_length :
    gives (exec (.readCounters 9 [0]) quiet) (fun t => (replyBody t).map (·.length) == some 59) = true := by
  decide +kernel

theorem test_readCountersClear_clears :
    gives (exec (.readCountersClear 9 [1]) { quiet with reports := (queued []).count overruns }) (fun t =>
      (replyBody t).map (fun b => b.take 11) == some [0, 0, 0, 0, 0, 0, 0, 0, 0, 1, 0] &&
        t.reports.counters == Counters.zero) = true := by decide +kernel

/-- 09, worked example: points 101 and 41 are locked, with minute numbers 57 and 20. -/
def walkable : State :=
  withSlot 5 .one { bare 101 (.boundary 2) true with minute := 57 }
    (withSlot 9 .one { bare 41 (.boundary 4) true with minute := 20 } quiet)

theorem test_exportWalk_begins :
    gives (exec (.exportWalk 0x40 [0, 0, 1, 12, 2]) walkable) (fun t =>
      replyBody t == some [0, 2, 6, 0] && t.exporter.list.map (·.base) == [45, 8]) = true := by decide +kernel

theorem test_exportOne_unknownPoint :
    gives (exec (.exportOne 0x2D [102, 0, 0, 0, 2]) walkable) (fun t => replyBody t == some [10]) = true := by
  decide +kernel

theorem test_abortExport_noneRuns :
    gives (exec (.abortExport 9 []) quiet) (fun t => replyBody t == some [0, 0]) = true := by decide +kernel

theorem test_darkTimer_enters :
    gives (exec .darkTimerExpiry
      (withSlot 3 .zero (bare 3 (.stage 3) false)
        { quiet with standby := { quiet.standby with enable := true, timer := some 5 } })) (fun t =>
      t.standby.dark && lineFrame t == some { kind := 0x4E, seq := 0, body := [8, 0xC2, 1, 0x58, 2] }) = true := by
  decide +kernel

theorem test_setDark_clamps :
    gives (exec (.setDark 9 ([1] ++ u16 100 ++ u16 9000)) quiet) (fun t =>
      replyBody t == some ([0, 1] ++ u16 300 ++ u16 3600 ++ [0]) && t.standby.timer == none) = true := by
  decide +kernel

/-! ### Witnesses: values that meet the hypotheses of the statements

Each theorem stands for the statement it names; its parts follow the statement's clauses. -/

theorem witness_StepRunsTheFrontCommandOrIdles :
    ({ quiet with pending := [.reading, .status 0 []] } : State).pending = .reading :: [.status 0 []] ∧
      quiet.pending = [] := by decide +kernel

theorem witness_IdleLinesHaveNothingToSend :
    exec (.badFrame .a) quiet = .next (quiet.dropMeterFrame .a).transmit ∧
      (quiet.dropMeterFrame .a).transmit.held = false ∧ (quiet.dropMeterFrame .a).transmit.link.line = none ∧
      (quiet.dropMeterFrame .a).transmit.console.line = none := by
  refine ⟨rfl, ?_⟩
  decide +kernel

/-- A part held by its pin. -/
def pinHeld : State := { quiet with hold := { pin := true, supply := false } }

theorem witness_ResetHoldsThePart :
    (pinHeld.hold.pin = true ∨ pinHeld.hold.supply = true) ∧ (∀ pins, Instr.reading ≠ .powerOn pins) ∧
      (∀ pins, Instr.reading ≠ .pinReset pins) ∧ Instr.reading ≠ .resetNLow ∧
      Instr.reading ≠ .supplyBelowRange := by
  refine ⟨by decide +kernel, ?_, ?_, ?_, ?_⟩ <;> simp

/-- `quiet` takes any request. -/
theorem quiet_open : quiet.Open := by
  refine ⟨⟨?_, ?_⟩, ?_⟩ <;> decide +kernel

/-- The reply to a RESTART is on the line. -/
def restarting (r : RestartKind) : State :=
  { quiet with console := { quiet.console with
      reply := some { kind := 0x85, seq := 5, body := [0] }, restart := some r
      line := some { what := .reply, frame := { kind := 0x85, seq := 5, body := [0] } } } }

theorem witness_FullRestartFollowsItsReply :
    quiet.Open ∧ 2 ≤ (2 : Byte).toNat ∧ (restarting .full).held = false ∧
      (restarting .full).console.line = some { what := .reply, frame := { kind := 0x85, seq := 5, body := [0] } } ∧
      (restarting .full).console.restart = some .full := by
  refine ⟨quiet_open, ?_⟩
  decide +kernel

theorem witness_EnforcementRestartKeepsWhatStands :
    (restarting .enforcement).held = false ∧
      (restarting .enforcement).console.line =
        some { what := .reply, frame := { kind := 0x85, seq := 5, body := [0] } } ∧
      (restarting .enforcement).console.restart = some .enforcement ∧
      (restarting .enforcement).standby.dark = false := by decide +kernel

theorem witness_MeterCharactersSpellTheFrame :
    quiet.held = false ∧ quiet.transmit = quiet ∧ quiet.meter.rx.get .b = .hunt := by decide +kernel

/-- Revival: both inputs are dead, A is active, and B sends; return: A is preferred and B active. -/
theorem witness_ValidFrameActsOnItsInput :
    autoA.held = false ∧ (autoA.straps.pref.val ≥ 2 ∧ .b ≠ autoA.meter.active ∧
        autoA.meter.alive.get autoA.meter.active = none) ∧
      (let s := { bothAlive with
        meter := { bothAlive.meter with active := .b, alive := { a := none, b := some 7 } } }
      s.straps.pref.val ≥ 2 ∧ .a = s.preferred ∧ s.meter.alive.get .a = none ∧ s.meter.active ≠ .a ∧
        (s.meter.alive.get (otherInput .a)).isSome = true) := by decide +kernel

/-- A reading queue with n readings. -/
def filledQueue (n : Nat) (h : Option Reading) : State :=
  { quiet with readings := { queue := List.replicate n (reading 7 1), holding := h } }

theorem witness_ReadingQueueTakesAndGives :
    (filledQueue 63 none).readings.queue.length < 64 ∧
      (64 ≤ (filledQueue 64 none).readings.queue.length ∧ (filledQueue 64 none).readings.holding = none) ∧
      (64 ≤ (filledQueue 64 (some (reading 7 1))).readings.queue.length ∧
        (filledQueue 64 (some (reading 7 1))).readings.holding = some (reading 7 1)) ∧
      (quiet.held = false ∧ quiet.readings.queue = []) ∧
      (filledQueue 1 none).readings.queue = reading 7 1 :: [] := by decide +kernel

theorem witness_DroppedFramesAreCounted :
    quiet.held = false ∧ quiet.meter.rx.get .a = .hunt ∧
      collecting.meter.rx.get .a = .collecting [0xA5] 576 := by decide +kernel

/-- Fourteen characters of a frame whose kind is 0. -/
def fourteen : List Byte := 0xA5 :: List.replicate 13 0

theorem witness_MeterReceiverTakesCharacters :
    quiet.held = false ∧ quiet.meter.rx.get .a = .hunt ∧
      collecting.meter.rx.get .a = .collecting [0xA5] 576 ∧ (fourteen.take 13).length < 14 ∧
      fourteen.length = 14 ∧ fourteen[0]? = some 0xA5#8 ∧ ∀ f, fourteen ++ [0] ≠ meterBytes f := by
  refine ⟨by decide +kernel, by decide +kernel, by decide +kernel, by decide, by decide, by decide, fun f h => ?_⟩
  have := congrArg (·[1]?) h
  simp [fourteen, meterBytes, meterCovered] at this

theorem witness_AliveAndReturnTimersMoveTheActiveInput :
    bothAlive.held = false ∧ quiet.meter.alive.get .a = none ∧ bothAlive.meter.alive.get .a = some 100 ∧
      bothAlive.meter.returnAt = none ∧
      ({ bothAlive with meter := { bothAlive.meter with returnAt := some 9 } } : State).meter.returnAt = some 9 := by
  decide +kernel

/-- A reading of point 101 with this stamp waits; the slot's last stamp is 4000. -/
def reads (stamp : Word16) : State := waiting (reading 101 stamp) set5

theorem witness_RepeatedAndLateReadingsOnlyCount :
    (reads 4000).held = false ∧ (reads 4000).readings.queue = reading 101 4000 :: [] ∧
      ((reads 4000).points[setOf (reading 101 4000).point]).find (reading 101 4000).point = some .one ∧
      (reads 4000).slotAt (setOf (reading 101 4000).point) .one = some (seen 101 (.boundary 2) true) ∧
      (seen 101 (.boundary 2) true).win.lastStamp = some 4000#16 ∧ (reading 101 4000).stamp = 4000#16 ∧
      32769 ≤ ((reading 101 36769).stamp - 4000#16).toNat := by decide +kernel

/-- Both ways of set 5 are barred: a stage meter and a locked point. -/
def barred : State :=
  withSlot 5 .one (bare 101 (.boundary 2) true) (withSlot 5 .zero (bare 21 (.stage 0) false) quiet)

theorem witness_ReadingOfAnAbsentPointIsSeatedOrCounted :
    (waiting (reading 405 1) set5).held = false ∧
      (waiting (reading 405 1) set5).readings.queue = reading 405 1 :: [] ∧
      ((set5.points[setOf (405 : PointId)]).find 405 = none ∧ (barred.points[setOf (405 : PointId)]).find 405 = none) ∧
      (barred.points[setOf (405 : PointId)]).victim = none ∧
      (set5.points[setOf (405 : PointId)]).victim = some .zero ∧
      ((set5.slotAt (setOf (405 : PointId)) .zero).map (·.dirty) = some true ∧ 48 ≤ urgent48.length ∧
        (∀ e ∈ urgent48, e.notice.cls ≠ .routine) ∧ ¬ 48 ≤ (urgent48.take 47).length) ∧
      set5.reports.queue.length < 48 := by decide +kernel

/-- Way 0 is free beside an occupied way 1; two usable ways; way 0 barred beside a usable way 1, and the other
way round; `set5` is locked in way 1, `barred` is barred in both. -/
theorem witness_ReadingOfAnAbsentPointIsSeatedOrCounted_victim :
    let free := bare 837 (.roaming 2) false
    let stage := bare 21 (.stage 0) false
    let ways (a : Option Slot) (b : Slot) (l : Way) : PointSet := { way0 := a, way1 := some b, lru := l }
    (ways none free .one).victim = some .zero ∧
      ({ ways (some free) free .zero with way1 := none }).victim = some .one ∧
      (ways (some free) free .zero).victim = some .zero ∧ (ways (some free) free .one).victim = some .one ∧
      (ways (some stage) free .zero).victim = some .one ∧ (ways (some free) stage .one).victim = some .zero ∧
      (ways (some { free with locked := true }) stage .one).victim = none := by decide +kernel

theorem witness_AcceptedReadingMarksItsSlot :
    (reads 4001).held = false ∧ (reads 4001).readings.queue = reading 101 4001 :: [] ∧
      ((reads 4001).points[setOf (reading 101 4001).point]).find (reading 101 4001).point = some .one ∧
      (reads 4001).slotAt (setOf (reading 101 4001).point) .one = some (seen 101 (.boundary 2) true) ∧
      (∀ last, (seen 101 (.boundary 2) true).win.lastStamp = some last →
        1 ≤ ((reading 101 4001).stamp - last).toNat ∧ ((reading 101 4001).stamp - last).toNat ≤ 32768) ∧
      ((reading 101 36768).stamp - 4000#16).toNat = 32768 ∧
      (set5.points[(5 : SetIx)]).owner = some (seen 101 (.boundary 2) true).point := by
  refine ⟨by decide +kernel, by decide +kernel, by decide +kernel, by decide +kernel, fun last h => ?_, by decide,
    by decide +kernel⟩
  have : 4000#16 = last := Option.some.inj h
  subst this
  decide

/-- A slot whose open minute has this many seconds. -/
def aged (n m : Nat) : Bench :=
  { slot := { bare 101 (.boundary 2) true with
      minute := m, win := { WindowRecord.empty with cur := { OpenMinute.empty with elapsed := n } } }
    reports := Reports.empty }

theorem witness_SecondsAdvanceAndMinutesClose :
    (aged 58 0).slot.win.cur.elapsed < 59 ∧ ({ OpenMinute.empty with elapsed := 59 } : OpenMinute).elapsed = 59 ∧
      (aged 59 0).slot.use.fixed = true ∧ (bare 21 (.stage 0) false).use.fixed = false ∧ 1 ≤ limits700.k ∧
      (reading 7 1).cal = false ∧ ({ reading 7 1 with cal := true } : Reading).cal = true ∧
      (aged 59 (Config.max32 - 16)).slot.win.cur.elapsed < 60 ∧
      (aged 59 (Config.max32 - 16)).slot.minute + 16 ≤ Config.max32 := by decide +kernel

theorem witness_RecoveryRoundsDownOnTheScale :
    ((300 : Nat) ≤ 300 ∧ 300 < 1400 ∧ 1400 ≤ 1400) ∧ ((1000 : Nat) ≤ 1000 ∧ 1000 ≤ 10 ^ 14) ∧
      ((1000 : Nat) ≤ 10 ^ 14 ∧ 10 ^ 14 ≤ 10 ^ 14) ∧ energy 1400 ≤ 10 ^ 14 := by decide +kernel

/-- A slot in OVER with a clear count. -/
def exceeding (n : Nat) : Slot :=
  { bare 101 (.boundary 2) true with win := { WindowRecord.empty with exceeding := true, clear := n } }

theorem witness_ExceedanceClosesAtTheTenthClearEvaluation :
    (bare 101 (.boundary 2) true).win.exceeding = false ∧ (exceeding 8).win.exceeding = true ∧
      (exceeding 8).win.clear < 9 ∧ (exceeding 9).win.clear = 9 ∧ (0 : Nat) < 1 := by decide +kernel

/-- Set 5 has an owner and set 6 a stage meter, both one tick before their threshold. -/
def nearlyStale : State :=
  let late (sl : Slot) : Slot := { sl with win := { sl.win with fresh := 3 } }
  withSlot 5 .one (late (seen 101 (.boundary 2) true)) (withSlot 6 .zero (late (seen 22 (.stage 0) false)) quiet)

theorem witness_FreshnessTickAgesEverySlot :
    nearlyStale.held = false ∧ 4 ≤ (seen 101 (.boundary 2) true).win.fresh + 1 + 3 ∧
      (nearlyStale.points[(5 : SetIx)]).owner = some 101 ∧ nearlyStale.control.freeze[(5 : SetIx)] = .active ∧
      (nearlyStale.slots.map fun sl => (sl.use, sl.win.fresh, sl.win.stale)) =
        [(.boundary 2, 3, false), (.stage 0, 3, false)] := by decide +kernel

theorem witness_ClockTickRunsItsPhasesAndPermissionsClose :
    quiet.held = false ∧ quiet.sched.tickAt = none ∧ at79199.sched.tickAt = some 3600000 ∧
      at79199.sched.clock ≤ 4294967295 ∧ at79199.sched.stageHolder[(3 : Stage)] = some 1 ∧
      quiet.sched.stageHolder[(3 : Stage)] = none := by decide +kernel

/-- 07, R128 and R129: a stage at 300 is denied; FADE_START, with a fade step of 1, precedes STAGE_SILENCED. -/
theorem test_permissionClose_reports :
    let permits (m : BitVec 4) : Schedule :=
      { quiet.sched with fallback := { quiet.sched.fallback with permits := m, fade := 20 } }
    let denied : State := { withStage3 (engineAt .holding 300 300 none) with sched := permits 0 }
    (denied.permissionClose (permits 8)).reports.queue.map (fun e => e.notice) =
      [Notice.fadeStart 3 300 20 1, Notice.stageSilenced 3 20] := by decide +kernel

/-- A ledger of `at79199` at a count, with the slot at the walk position replaced. -/
def walking (clock : Nat) (p : Period) : Ledger :=
  { sched := { at79199.sched with clock := clock, periods := at79199.sched.periods.set 2 p }
    reports := Reports.empty }

/-- Slot 2 of `at79199` runs from 79 200 to 84 600: one second before its start, at its start, one second
before its end and at its end; with an end of 79 200 it is invalid. -/
theorem witness_WalkEndsAtPendingOrStall :
    let p := at79199.sched.period 2
    let l := walking 79199 p
    l.sched.walk = 2 ∧ (l.sched.period 2).state = .pending ∧ l.sched.clockSet = true ∧
      quiet.sched.clockSet = false ∧ (quiet.sched.period quiet.sched.walk).state = .empty ∧
      quiet.sched.stall = false ∧ p.validated = true ∧
      (79199 < p.start ∧ 79199 < p.stop) ∧ (p.start ≤ 79200 ∧ 84599 < p.stop) ∧ p.stop ≤ 84600 ∧
      ({ p with stop := 79200 } : Period).stop ≤ p.start ∧ ({ p with validated := false } : Period).validated = false :=
  by decide +kernel

theorem witness_SetTimeMovesTheClock :
    quiet.Open ∧ (inForce 70301).Open ∧
      ((inForce 70301).sched.clockSet = true ∧ ((inForce 70301).sched.period 1).state = .inForce ∧
        le32 0x70 0x11 1 0 + 300 < (inForce 70301).sched.clock) ∧
      ¬ le32 0x70 0x11 1 0 + 300 < (inForce 70300).sched.clock := by
  refine ⟨quiet_open, ⟨⟨?_, ?_⟩, ?_⟩, ?_, ?_⟩ <;> decide +kernel

theorem witness_ScheduleReadsChangeNothing :
    quiet.Open ∧ 32 ≤ (32 : Byte).toNat ∧ (31 : Byte).toNat = (31 : SlotIx).val := ⟨quiet_open, by decide, by decide⟩

/-- Slot 1 in each state. -/
theorem witness_PostPeriodWritesAConsoleOwnedSlot :
    quiet.Open ∧ (scheduled 1 1 (evening .waiting)).Open ∧ 32 ≤ (32 : Byte).toNat ∧
      (1 : Byte).toNat = (1 : SlotIx).val ∧
      ((scheduled 1 1 (evening .waiting)).sched.period 1).state = .waiting ∧
      (quiet.sched.period 1).state = .empty := by
  refine ⟨quiet_open, ⟨⟨?_, ?_⟩, ?_⟩, ?_⟩ <;> decide +kernel

theorem witness_RecallWithdrawsAWaitingPeriod :
    quiet.Open ∧ (inForce 70000).Open ∧ (scheduled 1 1 (evening .waiting)).Open ∧ 32 ≤ (32 : Byte).toNat ∧
      (1 : Byte).toNat = (1 : SlotIx).val ∧ ((inForce 70000).sched.period 1).state = .inForce ∧
      (quiet.sched.period 1).state = .empty ∧
      ((scheduled 1 1 (evening .waiting)).sched.period 1).state = .waiting := by
  refine ⟨quiet_open, ⟨⟨?_, ?_⟩, ?_⟩, ⟨⟨?_, ?_⟩, ?_⟩, ?_⟩ <;> decide +kernel

theorem witness_SetCouplingWritesOneEntry :
    coupled.Open ∧ (4 ≤ (4 : Byte).toNat ∨ 16 ≤ (15 : Byte).toNat) ∧ (4 ≤ (3 : Byte).toNat ∨ 16 ≤ (16 : Byte).toNat) ∧
      (3 : Byte).toNat = (3 : Stage).val ∧ (5 : Byte).toNat = (5 : SetIx).val ∧
      (coupled.points[(6 : SetIx)]).owner = none ∧ (coupled.points[(5 : SetIx)]).owner.isSome = true := by
  refine ⟨⟨⟨?_, ?_⟩, ?_⟩, ?_⟩ <;> decide +kernel

theorem witness_FreezeExpiryTakesPrecaution :
    quiet.held = false ∧ quiet.control.freeze[(5 : SetIx)] = .active ∧
      ({ quiet.control with freeze := quiet.control.freeze.set 5 (.frozen 7) } : Control).freeze[(5 : SetIx)] =
        .frozen 7 := by decide +kernel

/-- Set 5 of `coupled` has contributions; with no meter known there are none. -/
theorem witness_EvaluationSetsOrDecaysNeeds :
    (∀ st', quiet.contribution 5 st' = none) ∧ (∃ st', coupled.contribution 5 st' ≠ none) ∧
      (∀ st, quiet.control.couplingAt st 5 = none) ∧ (∃ st, coupled.control.couplingAt st 5 ≠ none) ∧
      (∀ v : Int, some (29 : Int) = some v → v < (30 : Nat)) ∧ ((30 : Nat) : Int) ≤ 30 ∧ (0 : Nat) < 1 := by
  refine ⟨by decide +kernel, by decide +kernel, by decide +kernel, by decide +kernel, fun v h => ?_, by decide, by decide⟩
  have : (29 : Int) = v := Option.some.inj h
  subst this
  decide

theorem witness_ToldTargetsActByState :
    (engineAt .withheld 0 0 none).state = .withheld ∧ (engineAt .opened 0 0 none).state = .opened ∧
      (0 : Nat) ≤ (engineAt .opened 0 0 none).applied ∧ (engineAt .easing 20 5 none).applied < 21 ∧
      (20 : Nat) = (engineAt .pulling 20 30 none).applied ∧ (19 : Nat) < (engineAt .holding 20 20 none).applied ∧
      (engineAt .holding 20 20 none).holdAt = none ∧ (engineAt .holding 20 20 (some 1)).holdAt ≠ none := by
  decide +kernel

theorem witness_StepTickRaisesTheReduction :
    quiet.held = false ∧ ((quiet.engine 3).state ≠ .pulling ∧ (quiet.engine 3).state ≠ .fading) ∧
      ((withStage3 (engineAt .pulling 0 1 none)).engine 3).state = .pulling ∧
      0 < ((withStage3 (engineAt .pulling 0 1 none)).engine 3).attack ∧
      ((withStage3 (engineAt .pulling 0 1 none)).engine 3).applied <
        ((withStage3 (engineAt .pulling 0 1 none)).engine 3).target ∧
      ((fading 299).engine 3).state = .fading ∧ ((fading 299).engine 3).fade = some { step := 2, time := 20 } ∧
      ((fading 299).engine 3).applied < 300 := by decide +kernel

theorem witness_EngineTimersActAtTheirExpiry :
    quiet.held = false ∧ (quiet.engine 3).holdAt = none ∧ (quiet.engine 3).releaseAt = none ∧
      (quiet.engine 3).refreshAt = none ∧ ((withStage3 held138).engine 3).holdAt = some 54000000 ∧
      ((withStage3 held138).engine 3).refreshAt = some 57420000 ∧
      (let e : Engine := { engineAt .easing 6 5 none with releaseAt := some 9 }
      e.releaseAt = some 9 ∧ e.state = .easing ∧ 0 < e.release ∧ e.target < e.applied) := by decide +kernel

theorem witness_PermissionsStartAndEndFades :
    ((10 : Nat) ≤ 10 ∧ (engineAt .holding 299 0 none).applied ≤ 300) ∧
      ((engineAt .holding 299 0 none).state.limiting = true ∧ (engineAt .holding 299 0 none).applied < 300) ∧
      (engineAt .holding 300 0 none).applied = 300 ∧ (engineAt .fading 0 0 none).state.limiting = false ∧
      (engineAt .withheld 0 0 none).state = .withheld ∧ (engineAt .fading 0 0 none).state = .fading ∧
      (engineAt .silenced 300 0 none).state = .silenced := by decide +kernel

/-- Stage 0 is withheld and denied, stage 1 withheld and granted, the others are OPEN. -/
def withheld : State :=
  (quiet.putEngine 0 { engine0 with state := .withheld, granted := false }).putEngine 1
    { engine0 with state := .withheld }

theorem quiet_engines_legal : ∀ st, (quiet.engine st).Legal := by
  intro st
  have h : quiet.engine st = engine0 := by simp [quiet, State.engine, engine0]
  rw [h]
  simp [Engine.Legal, Engine.StateLegal, engine0, Engine.reset, EngineState.limiting]

theorem witness_StartReleasesWithheldEngines :
    (quiet.Open ∧ (∀ st, (quiet.engine st).Legal) ∧ ∀ st, ¬(quiet.engine st).state = .withheld) ∧
      withheld.Open ∧ (∀ st, (withheld.engine st).Legal) ∧
      (withheld.engine 0).state = .withheld ∧ (withheld.engine 0).granted = false ∧
      (withheld.engine 1).state = .withheld ∧ (withheld.engine 1).granted = true := by
  refine ⟨⟨quiet_open, quiet_engines_legal, by decide +kernel⟩, ⟨⟨?_, ?_⟩, ?_⟩, fun st => ?_, ?_⟩
  · decide +kernel
  · decide +kernel
  · decide +kernel
  · have h : withheld.engine st = { engine0 with state := .withheld, granted := false } ∨
        withheld.engine st = { engine0 with state := .withheld } ∨ withheld.engine st = engine0 := by
      revert st; decide +kernel
    rcases h with h | h | h <;> rw [h] <;>
      simp [Engine.Legal, Engine.StateLegal, engine0, Engine.reset, EngineState.limiting]
  · decide +kernel

/-- Stage 2 and stage 3 have an order due, and stage 2's order was sent last. -/
def dueTwice : State :=
  { quiet with
    engines := (quiet.engines.set 2 { engine0 with due := true }).set 3 { engine0 with due := true }
    link := { line := none, lastStage := some 2 } }

theorem witness_OrdersAreChosenInTurnAndLogged :
    ({ quiet with link :=
        { line := some { st := 1, seq := 4, order := { reduction := 0, mute := false } }, lastStage := none } } :
          State).link.line ≠ none ∧
      (quiet.link.line = none ∧ ∀ st, (quiet.engine st).due = false) ∧
      (dueTwice.link.line = none ∧
        (3 : Stage) = (match dueTwice.link.lastStage with
          | some l => l + 1
          | none => 0) ∧
        (dueTwice.engine (3 + 0)).due = true ∧ ∀ d', d' < (0 : Stage) → (dueTwice.engine (3 + d')).due = false) ∧
      quiet.held = false := by decide +kernel

/-- An engine with a last order and some mismatches in a row. -/
def echoed (n : Nat) : Engine := { engine0 with last := some { reduction := 0, mute := false }, misses := n }

/-- An echo of 10 fits a last order of 0, an echo of 11 does not. -/
theorem witness_EchoStepsTheRuns :
    engine0.last = none ∧ (echoed 4).last = some { reduction := 0, mute := false } ∧
      (echoed 4).log = [] ∧ (10 : Nat) ≤ 0 + 10 ∧ ¬ (11 : Nat) ≤ 0 + 10 ∧ (echoed 3).misses < 4 ∧
      4 ≤ (echoed 4).misses ∧ (echoed 4).notFollowing = false := by decide +kernel

theorem witness_SettingsAreStoredClamped :
    quiet.Open ∧ 4 ≤ (4 : Byte).toNat ∧ (3 : Byte).toNat = (3 : Stage).val := ⟨quiet_open, by decide, by decide⟩

theorem witness_ConsoleCharactersSpellTheRequest :
    ({ kind := 0x3F, seq := 0, body := List.replicate 200 7 } : ConFrame).body.length ≤ 200 ∧
      quiet.held = false ∧ quiet.transmit = quiet ∧ quiet.console.rx = .hunt := by decide +kernel

/-- An export runs, and its reply is on the line. -/
def exporting : State :=
  { walkable with
    console := busy.console
    exporter :=
      { running := true, seq := 0x2D, mode := .one
        list := [{ point := 101, set := 5, way := .one, intact := true, base := 57 }]
        span := 2, cursor := 2, abort := false, sent := 2 } }

theorem witness_DecoderRefusesInOrder :
    (quiet.Ready ∧ exporting.Ready) ∧ ([0] : List Byte).length ≤ 200 ∧
      (1 ≤ (0x3F : Byte).toNat ∧ (0x3F : Byte).toNat ≤ 0x3F ∧ (0x3F : Byte) ∉ requestRows.map (·.kind)) ∧
      (⟨0x03, 0, false, .getTime⟩ : RequestRow) ∈ requestRows ∧ ([0] : List Byte).length ≠ 0 ∧
      exporting.exporter.running = true := by
  refine ⟨⟨⟨?_, ?_⟩, ?_, ?_⟩, ?_, ?_, ?_, ?_⟩
  any_goals decide +kernel
  simp [requestRows]

/-- Five characters of a frame without a body, whose check will be wrong. -/
def fiveCharacters : List Byte := [0x7E, 0, 1, 2, 0]

theorem witness_ConsoleReceiverGathersOrDiscards :
    quiet.held = false ∧ ([] : List Byte).length ≤ 200 ∧ replying.console.reply ≠ none ∧ quiet.console.rx = .hunt ∧
      gathering.console.rx = .collecting [0x7E, 0, 1] 15000 ∧ ([0x7E] : List Byte).length = 1 ∧
      ([0x7E, 0, 1] : List Byte)[1]? = some 0 ∧ (0 : Byte).toNat ≤ 200 ∧
      ([0x7E, 0, 1] : List Byte).length < 5 + (0 : Byte).toNat ∧ fiveCharacters[0]? = some 0x7E#8 ∧
      fiveCharacters[1]? = some 0 ∧ fiveCharacters.length = 5 + (0 : Byte).toNat ∧
      ∀ f : ConFrame, fiveCharacters ++ [0] ≠ f.bytes := by
  refine ⟨by decide +kernel, by decide, by decide +kernel, by decide +kernel, by decide +kernel, by decide, by decide,
    by decide, by decide, by decide, by decide, by decide, fun f h => ?_⟩
  have hl := congrArg List.length h
  have hb : f.body = [] := by
    have h6 : f.bytes.length = f.body.length + 6 := by
      simp [ConFrame.bytes, ConFrame.covered, wordBytes]
    have h5 : (fiveCharacters ++ [0]).length = 6 := by decide
    exact List.eq_nil_of_length_eq_zero (by omega)
  have h2 := congrArg (·[2]?) h
  have h3 := congrArg (·[3]?) h
  simp [fiveCharacters, ConFrame.bytes, ConFrame.covered] at h2 h3
  simp only [ConFrame.bytes, ConFrame.covered, hb, ← h2, ← h3] at h
  revert h
  decide +kernel

/-- A frame of an export with the sequence 0x2D. -/
def anyFrame : ConFrame := { kind := 0x61, seq := 0x2D, body := [0, 3, 0] }

/-- An export runs, and a frame of a kind is on the line. -/
def sending (k : TxKind) : State :=
  { exporting with console := { exporting.console with line := some { what := k, frame := anyFrame } } }

theorem witness_ArbiterTakesReplyExportNotice :
    replying.console.line ≠ none ∧
      ({ replying.console with line := none } : Console).reply = some { kind := 0xB1, seq := 0x2A, body := [1] } ∧
      quiet.console.line = none ∧ quiet.console.reply = none ∧ exporting.exporter.running = true ∧
      quiet.exporter.running = false ∧ quiet.reports.queue = [] ∧
      replying.reports.queue = { number := 7, notice := .darkLeave .disabled } :: [] ∧ quiet.held = false ∧
      replying.console.line = some { what := .reply, frame := { kind := 0xB1, seq := 0x2A, body := [1] } } ∧
      replying.console.restart = none ∧
      (busy.held = false ∧ busy.console.line =
        some { what := .notice, frame := { kind := 0x4F, seq := 0, body := [2, 255, 255] } }) ∧
      ((sending .record).held = false ∧ (sending .record).console.line = some { what := .record, frame := anyFrame }) ∧
      ((sending .exportEnd).held = false ∧
        (sending .exportEnd).console.line = some { what := .exportEnd, frame := anyFrame }) := by decide +kernel

theorem witness_StatusReportsTheFirstCondition :
    exporting.Ready ∧ (∀ st, (quiet.engine st).notFollowing = false) ∧ (∀ st, (quiet.engine st).state ≠ .fading) ∧
      ((fading 38).engine 3).state = .fading ∧
      (∀ sl ∈ quiet.slots.filter (·.use.fixed), sl.win.stale = false ∧ sl.win.exceeding = false) ∧
      (∃ sl ∈ (withSlot 5 .one (exceeding 0) quiet).slots.filter (·.use.fixed), sl.win.exceeding = true) := by
  refine ⟨⟨?_, ?_⟩, ?_⟩ <;> decide +kernel

/-- A routine entry. -/
def routineEntry : NoticeEntry := { number := 0, notice := .darkLeave .disabled }

/-- Notices lost so far: one before the midpoint, one before the maximum, and at the maximum. -/
theorem witness_FullQueueActsByClass_counter :
    let at_ (v : Nat) : Counters := Counters.zero.put (.device 7) v
    (at_ 32767).get (.device 7) = 32767 ∧ ((at_ 65534).get (.device 7) < 65535 ∧ (at_ 65534).get (.device 7) ≠ 32767) ∧
      65535 ≤ (at_ 65535).get (.device 7) := by decide +kernel

theorem witness_FullQueueActsByClass :
    (queued (urgent48.take 47)).queue.length < 48 ∧ 48 ≤ (queued urgent48).queue.length ∧
      (queued (urgent48.take 47 ++ routineEntry :: [])).queue = urgent48.take 47 ++ routineEntry :: [] ∧
      48 ≤ (urgent48.take 47 ++ [routineEntry]).length ∧
      (∀ b ∈ urgent48.take 47, (b.notice.cls == .routine) = false) ∧
      (routineEntry.notice.cls == .routine) = true ∧
      (∀ b ∈ urgent48, (b.notice.cls == .routine) = false) ∧
      (Notice.stageSilenced 0 1).cls ≠ .routine ∧ (Notice.darkLeave .disabled).cls = .routine := by decide +kernel

/-- A counter bank with one counter at a value. -/
def countersAt (c : CounterId) (v : Nat) : Counters := Counters.zero.put c v

theorem witness_CountersSaturateAndAreRead :
    exporting.Ready ∧ 65535 ≤ (countersAt overruns 65535).get overruns ∧
      ((countersAt overruns 65534).get overruns < 65535 ∧ 2 * ((countersAt overruns 65534).get overruns + 1) ≠ 65536) ∧
      2 * ((countersAt (.peaks 7) 127).get (.peaks 7) + 1) = 255 + 1 ∧ (CounterId.peaks 6) ≠ .peaks 7 ∧
      2 ≤ (2 : Byte).toNat := by
  refine ⟨⟨?_, ?_⟩, ?_⟩ <;> decide +kernel

theorem witness_ExportsBeginAndAreAborted :
    walkable.Open ∧ 1024 ≤ le16 0 4 ∧ 2 ≤ (2 : Byte).toNat ∧ le16 101 0 = (101 : PointId).val ∧
      (walkable.points[setOf (102 : PointId)]).find 102 = none ∧
      (walkable.points[setOf (101 : PointId)]).find 101 = some .one ∧
      (walkable.slotAt (setOf (101 : PointId)) .one).isSome = true ∧ quiet.Ready ∧
      quiet.exporter.running = false ∧ exporting.exporter.running = true ∧
      ∃ f, ({ exporting.console with line := some { what := .exportEnd, frame := f } } : Console).line =
        some { what := .exportEnd, frame := f } := by
  refine ⟨⟨⟨?_, ?_⟩, ?_⟩, ?_, ?_, ?_, ?_, ?_, ?_, quiet_open.1, ?_, ?_, ⟨{ kind := 0x61, seq := 0, body := [] }, rfl⟩⟩ <;>
    decide +kernel

/-- Cursor 2 is the last record of the one listed point; minute 57 stands in no ring. -/
theorem witness_ExportSendsRecordsThenItsEnd :
    exporting.exporter.running = true ∧ exporting.exporter.abort = false ∧
      exporting.exporter.list.length * (exporting.exporter.span + 1) ≤ 3 ∧
      exporting.exporter.list[0]? =
        some { point := 101, set := 5, way := .one, intact := true, base := 57 } ∧
      2 ≤ exporting.exporter.span ∧ exporting.exporter.cursor = 0 * (exporting.exporter.span + 1) + 2 ∧
      (∃ sl, exporting.slotAt 5 .one = some sl ∧ ∀ m ∈ sl.win.minutes, m.number ≠ 55) ∧
      (let m := OpenMinute.empty.record 55
      [m] = [] ++ m :: [] ∧ m.number = 55) := by
  refine ⟨by decide +kernel, by decide +kernel, by decide +kernel, by decide +kernel, by decide +kernel,
    by decide +kernel, ⟨_, rfl, by decide +kernel⟩, by decide +kernel⟩

theorem witness_DarkTimerAndSettingsActOnStandby :
    quiet.held = false ∧ quiet.standby.timer = none ∧
      ({ quiet.standby with timer := some 5 } : Standby).timer = some 5 ∧ quiet.Open ∧ 2 ≤ (2 : Byte).toNat ∧
      quiet.standby.dark = false ∧ ({ quiet.standby with dark := true } : Standby).dark = true := by
  refine ⟨?_, ?_, ?_, quiet_open, ?_, ?_, ?_⟩ <;> decide +kernel

/-- At the threshold of 450 an L1 of 450 is not loud, and one of 451 is. -/
theorem witness_DarkTimerAndSettingsActOnStandby_L1 :
    (∃ l, some (451 : Nat) = some l ∧ quiet.standby.threshold < l) ∧
      ¬ ∃ l, some (450 : Nat) = some l ∧ quiet.standby.threshold < l := by
  simp [quiet, State.reset, Standby.start]

/-- Way 1 of set 9 holds point 41 locked. -/
def set9 : State := withSlot 9 .one (bare 41 (.boundary 4) true) quiet

theorem witness_DeclarationsAreRefusedInOrder :
    (set9.Open ∧ barred.Open) ∧ 1024 ≤ le16 0 4 ∧ le16 57 0 = (57 : PointId).val ∧
      (0 : Byte).toNat = (Use.boundary 4).roleCode ∧ (4 : Byte).toNat = (Use.boundary 4).place ∧
      (barred.meterSlot 0 = some (bare 21 (.stage 0) false) ∧ (bare 21 (.stage 0) false).point ≠ 57) ∧
      ((set9.points[setOf (57 : PointId)]).way1 = some (bare 41 (.boundary 4) true) ∧
        (bare 41 (.boundary 4) true).locked = true ∧ (bare 41 (.boundary 4) true).point ≠ 57) ∧
      (barred.points[setOf (405 : PointId)]).victim = none ∧
      ((set5.points[setOf (405 : PointId)]).find 405 = none ∧
        (set5.points[setOf (405 : PointId)]).victim = some .zero ∧
        48 ≤ urgent48.length ∧ ∀ e ∈ urgent48, e.notice.cls ≠ .routine) := by
  refine ⟨⟨⟨⟨?_, ?_⟩, ?_⟩, ⟨?_, ?_⟩, ?_⟩, ?_⟩ <;> decide +kernel

theorem witness_DeclarationsPlaceTheirPoint :
    set9.Open ∧ le16 41 0 = (41 : PointId).val ∧ (0 : Byte).toNat = (Use.boundary 4).roleCode ∧
      (4 : Byte).toNat = (Use.boundary 4).place ∧ ((1 : Byte) = 0 ∨ ((1 : Byte) = 1 ∧ (0 : Byte) ≠ 3)) ∧
      (set9.points[setOf (41 : PointId)]).find 41 = some .one ∧
      (set9.points[setOf (41 : PointId)]).get .one = some (bare 41 (.boundary 4) true) ∧
      ((set9.points[setOf (41 : PointId)]).owner ≠ none ∧
        gives (exec (.declarePoint 9 [41, 0, 0, 4, 0]) { set9 with console := busy.console }) (fun u =>
          (u.points[setOf (41 : PointId)]).owner == none) = true) ∧
      (set5.points[setOf (405 : PointId)]).find 405 = none ∧
      (set5.points[setOf (405 : PointId)]).victim = some .zero ∧ set5.reports.queue.length < 48 := by
  refine ⟨⟨⟨?_, ?_⟩, ?_⟩, ?_⟩ <;> decide +kernel

theorem witness_ReleaseFreesTheSlot :
    set5.Open ∧ 1024 ≤ le16 0 4 ∧ le16 0x45 3 = (837 : PointId).val ∧
      (set5.points[setOf (405 : PointId)]).find 405 = none ∧
      (set5.points[setOf (837 : PointId)]).find 837 = some .zero ∧
      (set5.slotAt (setOf (837 : PointId)) .zero).map (·.dirty) = some true ∧
      set5.reports.queue.length < 48 ∧ (48 ≤ urgent48.length ∧ ∀ e ∈ urgent48, e.notice.cls ≠ .routine) ∧
      (set9.points[setOf (41 : PointId)]).find 41 = some .one ∧
      (bare 41 (.boundary 4) true).locked = true ∧ (bare 41 (.boundary 4) true).use.fixed = true := by
  refine ⟨⟨⟨?_, ?_⟩, ?_⟩, ?_⟩ <;> decide +kernel

theorem witness_PointAndStageReadsChangeNothing :
    set5.Open ∧ 1024 ≤ le16 0 4 ∧ le16 0x45 3 = (837 : PointId).val ∧
      (set5.points[setOf (837 : PointId)]).find 837 = some .zero ∧
      (set5.points[setOf (405 : PointId)]).find 405 = none ∧
      (set5.slotAt (setOf (837 : PointId)) .zero).isSome = true ∧ 4 ≤ (4 : Byte).toNat ∧
      (3 : Byte).toNat = (3 : Stage).val := by
  refine ⟨⟨⟨?_, ?_⟩, ?_⟩, ?_⟩ <;> decide +kernel

theorem witness_StepsKeepQueuesAndCountersInBounds :
    quiet.readings.Bounded ∧ quiet.reports.Bounded ∧ step quiet = .next quiet.idle := by
  refine ⟨⟨by decide +kernel, by simp [quiet, State.reset], by simp [quiet, State.reset]⟩, ⟨by decide +kernel, ?_⟩, rfl⟩
  intro c
  cases c <;> simp [quiet, State.reset, Reports.empty, Counters.zero, Counters.get]

theorem witness_StepsKeepScheduleNeedsAndEnginesLegal : quiet.GainLegal ∧ step quiet = .next quiet.idle := by
  refine ⟨⟨⟨⟨?_, ?_, ?_, ?_⟩, ?_, by decide +kernel, by decide +kernel, by decide +kernel⟩, ?_, ?_⟩, rfl⟩
  · simp [quiet, State.reset]
  · simp [quiet, State.reset]
  · decide +kernel
  · decide +kernel
  · decide +kernel
  · intro st
    simp [quiet, State.reset, Control.needAt, Control.couplingAt]
  · intro st
    refine ⟨quiet_engines_legal st, ?_, ?_⟩ <;> revert st <;> decide +kernel

/-- A slot in OVER in way 1 of set 5; an L1 of 701 exceeds a short limit of 700 by 1, one of 700 does not. -/
theorem witness_ReadingIsScoredAndEvaluatedByRole :
    let sl := exceeding 0
    (withSlot 5 .one sl quiet).slotAt 5 .one = some sl ∧ sl.win.exceeding = true ∧
      (reading 7 1).cal = false ∧ ({ reading 7 1 with cal := true } : Reading).cal = true ∧
      (reading 7 1).echo = none ∧ (quiet.sched.zoneHolder[(2 : Zone)] = none) ∧
      at79199.sched.zoneHolder[(0 : Zone)] = some 1 ∧
      excess limits700 (some 701) none 1150 = 1 ∧ excess limits700 (some 700) none 1150 = 0 := by decide +kernel

theorem walkable_slots (p : SetIx) (w : Way) (sl : Slot) (h : walkable.slotAt p w = some sl) :
    (p = 5 ∧ w = .one ∧ sl = { bare 101 (.boundary 2) true with minute := 57 }) ∨
      (p = 9 ∧ w = .one ∧ sl = { bare 41 (.boundary 4) true with minute := 20 }) := by
  have k : ∀ p, walkable.slotAt p .zero = none ∧
      (p = 5 ∧ walkable.slotAt p .one = some { bare 101 (.boundary 2) true with minute := 57 } ∨
        p = 9 ∧ walkable.slotAt p .one = some { bare 41 (.boundary 4) true with minute := 20 } ∨
        walkable.slotAt p .one = none) := by decide +kernel
  obtain ⟨h0, h1⟩ := k p
  cases w
  · simp [h0] at h
  · rcases h1 with ⟨hp, h1⟩ | ⟨hp, h1⟩ | h1
    · exact .inl ⟨hp, rfl, (Option.some.inj (h1.symm.trans h)).symm⟩
    · exact .inr ⟨hp, rfl, (Option.some.inj (h1.symm.trans h)).symm⟩
    · simp [h1] at h

theorem witness_StepsKeepThePointTableLegal : walkable.PointsLegal ∧ step walkable = .next walkable.idle := by
  refine ⟨⟨fun p w sl h => ?_, fun p sl sl' h h' => ?_, fun st p w sl p' w' sl' h h' u u' => ?_, ?_⟩, rfl⟩
  · rcases walkable_slots p w sl h with ⟨rfl, rfl, rfl⟩ | ⟨rfl, rfl, rfl⟩ <;>
      simp [Slot.Legal, WindowRecord.Legal, bare, WindowRecord.empty, OpenMinute.empty, Use.isRoaming,
        Config.max32, Machine.setOf]
  · rcases walkable_slots p .zero sl h with ⟨_, k, _⟩ | ⟨_, k, _⟩ <;> exact absurd k (by decide)
  · rcases walkable_slots p w sl h with ⟨_, _, rfl⟩ | ⟨_, _, rfl⟩ <;> simp [bare] at u
  · decide +kernel

end Sys2Proof.Tests
end

/-! Headroom, excess and dominant kind of a reading against a limit set (1.7, R15 to R17). -/

namespace Sys2Proof.Machine

/-- How far a figure lies above its limit; a figure without a value counts as 0, the floor of the
excess (R16). -/
def overBy (limit : Nat) : Option Nat → Int
  | some l => (l : Int) - limit
  | none => 0

@[simp] theorem overBy_some (limit l : Nat) : overBy limit (some l) = (l : Int) - limit := rfl
@[simp] theorem overBy_none (limit : Nat) : overBy limit none = 0 := rfl

/-- The term of a figure in the list of R16, which leaves out a figure without a value. -/
def termOf (kind : LimitKind) (limit : Nat) : Option Nat → List (LimitKind × Int)
  | some l => [(kind, (l : Int) - limit)]
  | none => []

theorem excessTerms_eq (lim : LimitSet) (l1 pk : Option Nat) (peak : Nat) :
    excessTerms lim l1 pk peak = termOf .short lim.short l1 ++ termOf .long lim.long pk ++
      [(.peak, (peak : Int) - lim.ceiling)] := by
  cases l1 <;> cases pk <;> rfl

/-- The greatest of 0 and the three terms of R16, before the cap. -/
def mostOver (lim : LimitSet) (l1 pk : Option Nat) (peak : Nat) : Int :=
  max 0 (max (overBy lim.short l1) (max (overBy lim.long pk) ((peak : Int) - lim.ceiling)))

/-- Where the maximum so far is at least 0, a term left out does as well as a term of 0. -/
theorem foldl_max_termOf (kind : LimitKind) (limit : Nat) (level : Option Nat) {m : Int} (hm : 0 ≤ m) :
    (termOf kind limit level).foldl (fun m t => max m t.2) m = max m (overBy limit level) := by
  cases level with
  | some l => rfl
  | none => exact (max_eq_left hm).symm

theorem greatestTerm_excessTerms (lim : LimitSet) (l1 pk : Option Nat) (peak : Nat) :
    greatestTerm (excessTerms lim l1 pk peak) = mostOver lim l1 pk peak := by
  rw [excessTerms_eq, greatestTerm, List.foldl_append, List.foldl_append,
    foldl_max_termOf _ _ _ le_rfl, foldl_max_termOf _ _ _ (le_max_left _ _)]
  simp [mostOver, max_assoc]

theorem coe_excess (lim : LimitSet) (l1 pk : Option Nat) (peak : Nat) :
    (excess lim l1 pk peak : Int) = min 400 (mostOver lim l1 pk peak) := by
  have nonneg : 0 ≤ mostOver lim l1 pk peak := le_max_left _ _
  rw [excess, greatestTerm_excessTerms, Nat.cast_min, Int.toNat_of_nonneg nonneg, Nat.cast_ofNat]

/-- A term left out is not missed by a search for a value other than 0. -/
theorem find?_termOf (kind : LimitKind) (limit : Nat) (level : Option Nat) {most : Int} (hmost : most ≠ 0) :
    (termOf kind limit level).find? (fun t => decide (t.2 = most)) =
      if overBy limit level = most then some (kind, most) else none := by
  cases level with
  | some l => by_cases h : (l : Int) - limit = most <;> simp [termOf, h]
  | none => simp [termOf, hmost.symm]

/-- The peak term is the greatest when neither 0 nor the short nor the long term is. -/
theorem peak_eq_mostOver {lim : LimitSet} {l1 pk : Option Nat} {peak : Nat}
    (hpos : mostOver lim l1 pk peak ≠ 0) (hshort : overBy lim.short l1 ≠ mostOver lim l1 pk peak)
    (hlong : overBy lim.long pk ≠ mostOver lim l1 pk peak) :
    (peak : Int) - lim.ceiling = mostOver lim l1 pk peak := by
  unfold mostOver at *
  omega

/-- The search of R17 goes through the terms in the order SHORT, LONG, PEAK and always ends at one. -/
theorem dominantKind_eq (lim : LimitSet) (l1 pk : Option Nat) (peak : Nat) :
    dominantKind lim l1 pk peak =
      if mostOver lim l1 pk peak = 0 then none
      else if overBy lim.short l1 = mostOver lim l1 pk peak then some .short
      else if overBy lim.long pk = mostOver lim l1 pk peak then some .long
      else some .peak := by
  rw [dominantKind, greatestTerm_excessTerms]
  split
  case isTrue => rfl
  case isFalse hpos =>
    rw [excessTerms_eq, List.find?_append, List.find?_append, find?_termOf _ _ _ hpos,
      find?_termOf _ _ _ hpos]
    split
    case isTrue => rfl
    case isFalse hshort =>
      split
      case isTrue => rfl
      case isFalse hlong => simp [peak_eq_mostOver hpos hshort hlong]

theorem headroom_eq (lim : LimitSet) (l1 pk : Option Nat) :
    headroom lim l1 pk =
      match l1, pk with
      | none, none => none
      | some _, none => some (max (-400) (-overBy lim.short l1))
      | none, some _ => some (max (-400) (-overBy lim.long pk))
      | some _, some _ => some (max (-400) (min (-overBy lim.short l1) (-overBy lim.long pk))) := by
  cases l1 <;> cases pk <;> simp [headroom]

/-- Settles O21: each of the three figures by its own equation over the terms of R16. -/
theorem headroomAndExcessCompareWithTheLimits : Obligations.HeadroomAndExcessCompareWithTheLimits :=
  fun lim l1 pk peak =>
    ⟨headroom_eq lim l1 pk, coe_excess lim l1 pk peak, dominantKind_eq lim l1 pk peak⟩

end Sys2Proof.Machine

/-! Contributions, attribution and the evaluation of a fixed point (6.3, R105 to R111). -/

namespace Sys2Proof.Machine

/-! ### Attribution (R107 to R109) -/

theorem Control.coupled_iff {c : Control} {st : Stage} {p : SetIx} :
    c.coupled st p = true ↔ c.couplingAt st p ≠ none :=
  Option.isSome_iff_ne_none

theorem State.stageLevel_eq_some {s : State} {st : Stage} {l : Nat} :
    s.stageLevel st = some l ↔
      ∃ sl, s.meterSlot st = some sl ∧ sl.win.stale = false ∧ s.standby.lastL1[st] = some l := by
  cases hm : s.meterSlot st with
  | none => simp [State.stageLevel, hm]
  | some sl => cases hw : sl.win.stale <;> simp [State.stageLevel, hm, hw]

theorem State.contribution_eq_some {s : State} {p : SetIx} {st : Stage} {c : Int} :
    s.contribution p st = some c ↔
      ∃ a l, s.control.couplingAt st p = some a ∧ s.stageLevel st = some l ∧ c = (l : Int) - a := by
  cases ha : s.control.couplingAt st p with
  | none => simp [State.contribution, ha]
  | some a => cases hl : s.stageLevel st <;> simp [State.contribution, ha, hl, eq_comm]

theorem largest_eq_max? (cs : List Int) : largest cs = cs.max? := by cases cs <;> rfl

/-- The contributions R108 compares at the point of a column. -/
def State.contributions (s : State) (p : SetIx) : List Int := allStages.filterMap (s.contribution p)

@[simp] theorem State.mem_contributions {s : State} {p : SetIx} {c : Int} :
    c ∈ s.contributions p ↔ ∃ st, s.contribution p st = some c := by
  simp [State.contributions, mem_allStages]

theorem State.largest_contribution_eq_none {s : State} {p : SetIx} :
    largest (s.contributions p) = none ↔ ∀ st, s.contribution p st = none := by
  simp [State.contributions, largest_eq_max?, mem_allStages]

/-- The loudest contributor is a stage, and no stage contributes more. -/
theorem State.largest_contribution_eq_some {s : State} {p : SetIx} {cmax : Int} :
    largest (s.contributions p) = some cmax ↔
      (∃ st, s.contribution p st = some cmax) ∧ ∀ st c, s.contribution p st = some c → c ≤ cmax := by
  simp only [largest_eq_max?, List.max?_eq_some_iff, State.mem_contributions]
  exact and_congr_right' ⟨fun h st c hc => h c ⟨st, hc⟩, fun h c ⟨st, hc⟩ => h st c hc⟩

theorem State.attributed_of_largest_eq_none {s : State} {p : SetIx} (st : Stage)
    (h : largest (s.contributions p) = none) : s.attributed p st = s.control.coupled st p := by
  rw [State.contributions] at h
  simp [State.attributed, h]

theorem State.attributed_iff_of_largest_eq_some {s : State} {p : SetIx} {cmax : Int} (st : Stage)
    (h : largest (s.contributions p) = some cmax) :
    s.attributed p st = true ↔ ∃ c, s.contribution p st = some c ∧ cmax - 100 ≤ c := by
  rw [State.contributions] at h
  cases hc : s.contribution p st <;> simp [State.attributed, h, hc]

theorem State.attributed_iff_coupled {s : State} {p : SetIx} (st : Stage)
    (h : ∀ st', s.contribution p st' = none) :
    s.attributed p st = true ↔ s.control.couplingAt st p ≠ none := by
  rw [State.attributed_of_largest_eq_none st (State.largest_contribution_eq_none.mpr h),
    Control.coupled_iff]

/-- To lie within 100 of every contribution is to lie within 100 of the largest, which is one of them. -/
theorem State.attributed_iff_near_largest {s : State} {p : SetIx} (st : Stage)
    (h : ∃ st', s.contribution p st' ≠ none) :
    s.attributed p st = true ↔
      ∃ c, s.contribution p st = some c ∧ ∀ st' c', s.contribution p st' = some c' → c' - 100 ≤ c := by
  cases hl : largest (s.contributions p) with
  | none =>
    obtain ⟨st', hst'⟩ := h
    exact absurd (State.largest_contribution_eq_none.mp hl st') hst'
  | some cmax =>
    obtain ⟨⟨loudest, hloudest⟩, hmax⟩ := State.largest_contribution_eq_some.mp hl
    rw [State.attributed_iff_of_largest_eq_some st hl]
    refine exists_congr fun c => and_congr_right' ⟨fun near st' c' hc' => ?_, fun near => ?_⟩
    · have := hmax st' c' hc'
      omega
    · exact near loudest cmax hloudest

theorem State.contribution_iff_valid_level {s : State} {p : SetIx} {st : Stage} {c : Int} :
    s.contribution p st = some c ↔
      ∃ sl a l, s.meterSlot st = some sl ∧ sl.win.stale = false ∧ s.control.couplingAt st p = some a ∧
        s.standby.lastL1[st] = some l ∧ c = (l : Int) - a := by
  simp only [State.contribution_eq_some, State.stageLevel_eq_some]
  constructor
  · rintro ⟨a, l, ha, ⟨sl, hsl, hfresh, hl⟩, hc⟩
    exact ⟨sl, a, l, hsl, hfresh, ha, hl, hc⟩
  · rintro ⟨sl, a, l, hsl, hfresh, ha, hl, hc⟩
    exact ⟨a, l, ha, ⟨sl, hsl, hfresh, hl⟩, hc⟩

/-! ### Evaluation (R105, R106, R109 to R111) -/

/-- Rewriting a column reaches every stage's need for that column and no other need. -/
theorem Control.needAt_mapColumn (c : Control) (p : SetIx) (f : Stage → Nat → Nat) (st : Stage) (q : SetIx) :
    (c.mapColumn p f).needAt st q = if q = p then f st (c.needAt st p) else c.needAt st q := by
  split
  case isTrue h => subst h; simp [Control.mapColumn, Control.needAt]
  case isFalse h =>
    have hval : p.val ≠ q.val := fun e => h (Fin.ext e.symm)
    simp [Control.mapColumn, Control.needAt, hval]

theorem Control.all_uncoupled_iff {c : Control} {p : SetIx} :
    allStages.all (fun st => !(c.coupled st p)) = true ↔ ∀ st, c.couplingAt st p = none := by
  simp [Control.coupled, mem_allStages]

theorem State.evaluate_unattributable {s : State} {p : SetIx} {own : Bool} (margin x : Nat) (h : Option Int)
    (hno : own = false ∨ ∀ st, s.control.couplingAt st p = none) :
    s.evaluate p own margin x h = if x = 0 then s else s.count unattributed := by
  unfold State.evaluate
  rw [if_pos (hno.imp_right Control.all_uncoupled_iff.mpr)]

section Attributable

variable {s : State} {p : SetIx} (hcoupled : ∃ st, s.control.couplingAt st p ≠ none) (margin x : Nat)
include hcoupled

theorem State.attributable :
    ¬(true = false ∨ allStages.all (fun st => !(s.control.coupled st p)) = true) := by
  rintro (h | h)
  · cases h
  · obtain ⟨st, hst⟩ := hcoupled
    exact hst (Control.all_uncoupled_iff.mp h st)

theorem State.evaluate_below_margin {h : Option Int} (hbelow : ∀ v, h = some v → v < margin) :
    s.evaluate p true margin 0 h = s := by
  unfold State.evaluate
  rw [if_neg (State.attributable hcoupled), if_pos rfl]
  cases h with
  | none => rfl
  | some v => exact if_neg (not_le.mpr (hbelow v rfl))

theorem State.evaluate_at_margin {v : Int} (hmargin : (margin : Int) ≤ v) :
    s.evaluate p true margin 0 (some v) = s.controlEvent (s.control.mapColumn p fun _ n => n - 10) := by
  unfold State.evaluate
  rw [if_neg (State.attributable hcoupled), if_pos rfl]
  exact if_pos hmargin

theorem State.evaluate_excess (h : Option Int) (hx : 0 < x) :
    s.evaluate p true margin x h =
      s.controlEvent (s.control.mapColumn p fun st n =>
        if s.attributed p st then min 300 ((s.engine st).applied + x) else n) := by
  unfold State.evaluate
  rw [if_neg (State.attributable hcoupled), if_neg hx.ne']

end Attributable

/-- The needs of a column after an excess x: those of the attributed stages are set anew (R110). -/
theorem State.needAt_after_excess (s : State) (p : SetIx) (x : Nat) (st : Stage) (q : SetIx) :
    (s.control.mapColumn p fun st n =>
        if s.attributed p st then min 300 ((s.engine st).applied + x) else n).needAt st q =
      if q = p ∧ s.attributed p st = true then min 300 ((s.engine st).applied + x)
      else s.control.needAt st q := by
  rw [Control.needAt_mapColumn]
  by_cases hq : q = p
  · subst hq; simp
  · simp [hq]

/-- Settles O34: attribution by the largest contribution, evaluation by its branches, the column's needs
being those of the rewritten column. -/
theorem evaluationSetsOrDecaysNeeds : Obligations.EvaluationSetsOrDecaysNeeds := by
  refine ⟨fun s p st => ⟨State.attributed_iff_coupled st, State.attributed_iff_near_largest st,
    fun c => State.contribution_iff_valid_level⟩, fun s p own margin x h =>
    ⟨State.evaluate_unattributable margin x h, fun hown hcoupled => ?_⟩⟩
  subst hown
  refine ⟨fun hx hbelow => ?_, ?_⟩
  · subst hx
    exact State.evaluate_below_margin hcoupled margin hbelow
  · rcases x.eq_zero_or_pos with rfl | hx
    · refine ⟨s.control.mapColumn p fun _ n => n - 10, rfl, fun _ v hv hmargin => ⟨?_, ?_⟩,
        fun hx => absurd hx (lt_irrefl 0)⟩
      · subst hv
        exact State.evaluate_at_margin hcoupled margin hmargin
      · exact Control.needAt_mapColumn s.control p _
    · exact ⟨_, rfl, fun h0 => absurd h0 hx.ne', fun _ =>
        ⟨State.evaluate_excess hcoupled margin x h hx, State.needAt_after_excess s p x⟩⟩

end Sys2Proof.Machine

/-! STATUS: the first active condition and the summary fields (8.5, R157, R158). -/

namespace Sys2Proof.Machine

/-! ### An exempt request (R149, check 3) -/

/-- A request that is taken even during an export, and that its owner answers without an effect. -/
theorem State.request_read_of_exempt {s : State} (h : s.Ready) {k : RequestKind} (hk : k.exempt = true)
    (seq : Byte) {body : List Byte} (hl : body.length = k.length) {b : List Byte}
    (ho : ownerReply k seq body s.huntConsole = (b, s.huntConsole)) :
    s.act (·.requestFrame k.code seq body) = .next (s.replied k.code seq b).transmit := by
  have ha : answer k.code seq body s.huntConsole = (b, s.huntConsole) := by
    rw [answer_code k seq body _ hl, ← ho]
    simp [hk]
  rw [State.act_running h.1, State.requestFrame_ready h.2 (hl ▸ k.length_le) k.code_range, ha]
  rfl

/-! ### The condition code (R157) -/

section Condition

variable {s : State}

theorem State.condition_of_notFollowing (h : ∃ st, (s.engine st).notFollowing = true) :
    s.condition = 1 := by
  simp [State.condition, mem_allStages, h]

variable (following : ∀ st, (s.engine st).notFollowing = false)
include following

theorem State.condition_of_fading (h : ∃ st, (s.engine st).state = .fading) : s.condition = 2 := by
  simp [State.condition, mem_allStages, following, h]

variable (notFading : ∀ st, (s.engine st).state ≠ .fading)
include notFading

theorem State.condition_of_stale (h : ∃ sl ∈ s.fixedSlots, sl.win.stale = true) : s.condition = 3 := by
  simp [State.condition, following, notFading, h]

variable (fresh : ∀ sl ∈ s.fixedSlots, sl.win.stale = false)
include fresh

theorem State.condition_of_exceeding (h : ∃ sl ∈ s.fixedSlots, sl.win.exceeding = true) :
    s.condition = 4 := by
  have noneStale : s.fixedSlots.any (·.win.stale) = false := by simpa using fresh
  simp [State.condition, following, notFading, noneStale, h]

/-- With no stage and no fixed point reported, the stall mark, the inputs and the clock are left. -/
theorem State.condition_of_not_exceeding (h : ∀ sl ∈ s.fixedSlots, sl.win.exceeding = false) :
    s.condition =
      if s.sched.stall then 5 else if s.meter.active ≠ s.preferred then 6
      else if s.sched.clockSet then 0 else 7 := by
  have noneStale : s.fixedSlots.any (·.win.stale) = false := by simpa using fresh
  have noneExceeding : s.fixedSlots.any (·.win.exceeding) = false := by simpa using h
  cases hset : s.sched.clockSet <;>
    simp [State.condition, following, notFading, noneStale, noneExceeding, hset]

end Condition

/-! ### The summary fields (R158) -/

theorem marks_allStages (f : Stage → Bool) :
    marks (allStages.map f) = (allStages.map fun st => if f st then 2 ^ st.val else 0).sum := rfl

theorem marks_pair (a b : Bool) : marks [a, b] = (if a then 1 else 0) + (if b then 2 else 0) := rfl

theorem inputCode_eq (i : Input) : inputCode i = if i = .a then 0 else 1 := by cases i <;> rfl

/-- The receiver's state is no part of the STATUS reply. -/
theorem ownStatus_huntConsole (s : State) :
    ownStatus s.huntConsole = ((ownStatus s).1, s.huntConsole) := rfl

theorem exec_status_ready {s : State} (h : s.Ready) (seq : Byte) :
    exec (.status seq []) s = .next (s.replied 0x01 seq (ownStatus s).1).transmit := by
  rw [exec_status]
  exact State.request_read_of_exempt h (k := .status) rfl seq rfl (ownStatus_huntConsole s)

/-- Settles O47: the tests of R157 in their order, and the 17 fields of R158. -/
theorem statusReportsTheFirstCondition : Obligations.StatusReportsTheFirstCondition := by
  intro s seq ready
  refine ⟨s.condition, State.condition_of_notFollowing, fun following =>
    ⟨State.condition_of_fading following, fun notFading =>
      ⟨State.condition_of_stale following notFading, fun fresh =>
        ⟨State.condition_of_exceeding following notFading fresh,
          State.condition_of_not_exceeding following notFading fresh⟩⟩⟩, ?_⟩
  rw [exec_status_ready ready]
  simp only [ownStatus, State.stateMarks, marks_allStages, marks_pair, inputCode_eq]
  rfl

end Sys2Proof.Machine

/-! The counters: saturation and midpoint (R166, R167), and READ_COUNTERS (R168). -/

namespace Sys2Proof.Machine

/-! ### Increments (R166, R167) -/

/-- The midpoint of R167 is half of the counter's range. -/
theorem CounterId.two_mul_mid (c : CounterId) : 2 * c.mid = c.max + 1 := by cases c <;> rfl

/-- The reports after an increment of a counter, before a notice of it is offered. -/
def Reports.raise (r : Reports) (c : CounterId) : Reports :=
  { r with counters := r.counters.put c (r.counters.get c + 1) }

section Count

variable {r : Reports} {c : CounterId}

theorem Reports.count_at_max (h : c.max ≤ r.counters.get c) : r.count c = r := if_pos h

theorem Reports.count_below_max (h : r.counters.get c < c.max) :
    r.count c =
      if r.counters.get c + 1 = c.mid then (r.raise c).offer (.counterHalf c (r.counters.get c + 1))
      else r.raise c :=
  if_neg (not_le.mpr h)

theorem Reports.count_off_midpoint (h : r.counters.get c < c.max)
    (off : 2 * (r.counters.get c + 1) ≠ c.max + 1) : r.count c = r.raise c := by
  rw [Reports.count_below_max h, if_neg]
  have := c.two_mul_mid
  omega

theorem Reports.count_to_midpoint (h : r.counters.get c < c.max)
    (mid : 2 * (r.counters.get c + 1) = c.max + 1) :
    r.count c = (r.raise c).offer (.counterHalf c (r.counters.get c + 1)) := by
  rw [Reports.count_below_max h, if_pos]
  have := c.two_mul_mid
  omega

end Count

/-! ### The bytes of the counters (R168) -/

@[simp] theorem length_u8 (n : Nat) : (u8 n).length = 1 := rfl
@[simp] theorem length_u16 (n : Nat) : (u16 n).length = 2 := rfl

theorem deviceIds_eq : deviceIds = (List.finRange 9).map .device := by decide

theorem allZones_eq : allZones = List.finRange 8 := by decide

/-- The device counters go out in code order, then the three counters of each zone. -/
theorem Counters.bytes_eq (c : Counters) :
    c.bytes = (List.finRange 9).flatMap (fun d => u16 (c.get (.device d))) ++
      (List.finRange 8).flatMap fun z =>
        u16 (c.get (.overShort z)) ++ u16 (c.get (.overLong z)) ++ u8 (c.get (.peaks z)) := by
  rw [Counters.bytes, deviceIds_eq, allZones_eq, List.flatMap_map]

/-- Nine device counters of two bytes and eight zones of five. -/
theorem Counters.length_bytes (c : Counters) : c.bytes.length = 58 := by
  simp [Counters.bytes_eq, List.length_flatMap]

/-! ### READ_COUNTERS (R168) -/

/-- A request that is taken even during an export: the state its owner leaves carries the reply. -/
theorem State.request_of_exempt {s t : State} (h : s.Ready) {k : RequestKind} (hk : k.exempt = true)
    (seq : Byte) {body : List Byte} (hl : body.length = k.length) {b : List Byte}
    (ho : ownerReply k seq body s.huntConsole = (b, t)) (hr : t.console.rx = .hunt) :
    s.act (·.requestFrame k.code seq body) = .next (t.replied k.code seq b).transmit := by
  have ha : answer k.code seq body s.huntConsole = (b, t) := by
    rw [answer_code k seq body _ hl, ← ho]
    simp [hk]
  rw [State.act_running h.1, State.requestFrame_ready h.2 (hl ▸ k.length_le) k.code_range, ha]
  simp [State.replied, hr]

/-- Every counter at 0, and nothing else changed. -/
def State.clearCounters (s : State) : State :=
  { s with reports := { s.reports with counters := Counters.zero } }

theorem flagOf_eq_none {n : Nat} (h : 2 ≤ n) : flagOf n = none := by
  rw [flagOf, if_neg (by omega), if_neg (by omega)]

theorem ownReadCounters_read (s : State) : ownReadCounters 0 s = (stOk ++ s.reports.counters.bytes, s) := rfl

/-- The values of the reply are those from before the clearing. -/
theorem ownReadCounters_clear (s : State) :
    ownReadCounters 1 s = (stOk ++ s.reports.counters.bytes, s.clearCounters) := rfl

theorem ownReadCounters_refused {n : Nat} (h : 2 ≤ n) (s : State) :
    ownReadCounters n s = (stBadField, s) := by
  rw [ownReadCounters, flagOf_eq_none h]

section ReadCounters

variable {s : State} (ready : s.Ready) (seq : Byte)
include ready

theorem exec_readCounters_read :
    exec (.readCounters seq [0]) s = .next (s.replied 0x38 seq (stOk ++ s.reports.counters.bytes)).transmit :=
  State.request_read_of_exempt ready (k := .readCounters) rfl seq rfl (ownReadCounters_read s.huntConsole)

theorem exec_readCountersClear_clear :
    exec (.readCountersClear seq [1]) s =
      .next (s.clearCounters.replied 0x38 seq (stOk ++ s.reports.counters.bytes)).transmit :=
  State.request_of_exempt (t := s.huntConsole.clearCounters) ready (k := .readCounters) rfl seq rfl
    (ownReadCounters_clear s.huntConsole) rfl

theorem exec_readCounters_refused {flag : Byte} (h : 2 ≤ flag.toNat) :
    exec (.readCounters seq [flag]) s = .next (s.replied 0x38 seq stBadField).transmit :=
  State.request_read_of_exempt ready (k := .readCounters) rfl seq rfl (ownReadCounters_refused h s.huntConsole)

end ReadCounters

/-- Settles O49: an increment by where the counter stands, and READ_COUNTERS by its flag. -/
theorem countersSaturateAndAreRead : Obligations.CountersSaturateAndAreRead := by
  refine ⟨fun r c => ?_, fun s seq flag ready => ?_⟩
  · intro v top raised
    have htop : top = c.max := by cases c <;> rfl
    rw [htop]
    exact ⟨Reports.count_at_max, Reports.count_off_midpoint, Reports.count_to_midpoint,
      Counters.get_put_self _ c _, fun _ => Counters.get_put_of_ne _ _⟩
  · intro c b
    have hb : b = stOk ++ c.bytes := by
      rw [Counters.bytes_eq, ← List.append_assoc]
      rfl
    rw [hb]
    refine ⟨?_, ?_, ?_, Counters.get_zero, exec_readCounters_refused ready seq⟩
    · rw [List.length_append, Counters.length_bytes]
      rfl
    · rintro rfl
      exact exec_readCounters_read ready seq
    · rintro rfl
      exact exec_readCountersClear_clear ready seq

end Sys2Proof.Machine

/-! How a property of the state is carried through a console request and through a step. -/

namespace Sys2Proof.Machine

section Keeps

variable {P : State → Prop} {s : State}

/-- A property that does not look at the console link is kept by a request when every owner's reply
keeps it. -/
theorem State.offerRequest_keeps (console : ∀ u c, P u → P { u with console := c }) (self : P s)
    (owner : ∀ k seq body, body.length = RequestKind.length k → P (ownerReply k seq body s).2)
    (kind seq : Byte) (body : List Byte) : P (s.offerRequest kind seq body) := by
  unfold State.offerRequest
  split
  · exact self
  · exact console _ _ (answer_cases (P := fun r => P r.2) (fun _ => self) fun k hl => owner k seq body hl)

theorem State.checkedFrame_keeps (console : ∀ u c, P u → P { u with console := c }) (self : P s)
    (owner : ∀ k seq body, body.length = RequestKind.length k → P (ownerReply k seq body s).2)
    (f : ConFrame) : P (s.checkedFrame f) := by
  unfold State.checkedFrame
  split
  · exact s.offerRequest_keeps console self owner ..
  · exact self

variable (console : ∀ u c, P u → P { u with console := c }) (self : P s)
  (owner : ∀ k seq body, body.length = RequestKind.length k → P (ownerReply k seq body s.huntConsole).2)
include console self owner

theorem State.requestFrame_keeps (kind seq : Byte) (body : List Byte) : P (s.requestFrame kind seq body) := by
  unfold State.requestFrame
  split
  · exact State.checkedFrame_keeps console (console s _ self) owner _
  · exact console s _ self

theorem State.gatherConsole_keeps (bs : List Byte) : P (s.gatherConsole bs) := by
  have complete : P (s.completeConsoleFrame bs) := by
    unfold State.completeConsoleFrame
    split
    · exact State.checkedFrame_keeps console (console s _ self) owner _
    · exact console s _ self
  unfold State.gatherConsole
  split
  · split
    · exact console s _ self
    · split
      · exact complete
      · exact console s _ self
  · exact console s _ self

theorem State.consoleCharacter_keeps (c : Byte) (good : Bool) : P (s.consoleCharacter c good) := by
  unfold State.consoleCharacter
  split
  · split
    · exact console s _ self
    · exact self
  · split
    · exact console s _ self
    · exact State.gatherConsole_keeps console self owner _

end Keeps

/-- An invariant of the commands is one of the steps when it does not look at the waiting commands or at
the time base. -/
theorem step_keeps {P : State → Prop} (pending : ∀ u l, P u → P { u with pending := l })
    (now : ∀ u n, P u → P { u with now := n }) (transmit : ∀ u, P u → P u.transmit)
    (command : ∀ c s, P s → ∃ t, exec c s = .next t ∧ P t) {s t : State} (hs : P s) (h : step s = .next t) :
    P t := by
  refine step_induct h (fun c rest u hu => ?_) (fun _ => hs) fun _ => transmit _ (now s _ hs)
  obtain ⟨v, hv, hp⟩ := command c _ (pending s rest hs)
  rw [hv] at hu
  cases hu
  exact hp

end Sys2Proof.Machine

/-! The queues and the counters stay within their sizes (2.4, 2.5, 9.1, 9.2): what each block does to the
reports, and what the meter inputs do to the reading queue. -/

namespace Sys2Proof.Machine

/-! ### The reports through the blocks -/

theorem Bench.closeMinute_bounded {b : Bench} (h : b.reports.Bounded) (dark : Bool) (lim : LimitSet) :
    (b.closeMinute dark lim).reports.Bounded := by
  have counted : (match b.slot.use.zone with
      | some z => if overLong lim (closeLong b.slot.use lim.k
          ((b.slot.win.cur.record (min (b.slot.minute + 1) Config.max32) :: b.slot.win.minutes).take 15))
        then b.reports.count (.overLong z) else b.reports
      | none => b.reports).Bounded := by
    split
    · split
      · exact h.count _
      · exact h
    · exact h
  unfold Bench.closeMinute
  simp only
  split
  · exact counted.offer _
  · exact counted

theorem Bench.second_bounded {b : Bench} (h : b.reports.Bounded) (dark : Bool) (lim : LimitSet)
    (e : Option Nat) (cur : OpenMinute) : (b.second dark lim e cur).reports.Bounded := by
  unfold Bench.second
  simp only
  split
  · refine Bench.closeMinute_bounded ?_ dark lim
    exact h
  · exact h

theorem Bench.emptySeconds_bounded {b : Bench} (h : b.reports.Bounded) (dark : Bool) (lim : LimitSet)
    (n : Nat) : (b.emptySeconds dark lim n).reports.Bounded := by
  induction n generalizing b with
  | zero => exact h
  | succ n ih => exact ih (b.second_bounded h dark lim none _)

theorem State.advanceTo_bounded {s : State} (h : s.reports.Bounded) (p : SetIx) (w : Way) (sl : Slot)
    (lim : LimitSet) (n : Nat) (r : Reading) : (s.advanceTo p w sl lim n r).reports.Bounded :=
  Bench.second_bounded (Bench.emptySeconds_bounded (b := { slot := sl, reports := s.reports }) h _ lim n) ..

theorem State.refreshSlot_bounded {s : State} (h : s.reports.Bounded) (p : SetIx) (w : Way) (r : Reading) :
    (s.refreshSlot p w r).reports.Bounded := by
  unfold State.refreshSlot
  split
  · exact h
  · simp only
    split
    · split <;> simp [h, Reports.Bounded.offer]
    · split <;> simp [h, Reports.Bounded.offer]

theorem Reports.Bounded.countScore {rep : Reports} (h : rep.Bounded) (z : Zone) (lim : LimitSet) (sl : Slot)
    (r : Reading) : (rep.countScore z lim sl r).Bounded := by
  have short : (if overShort lim sl.win.l1 then rep.count (.overShort z) else rep).Bounded := by
    split
    · exact h.count _
    · exact h
  unfold Reports.countScore
  simp only
  split
  · exact short.count _
  · exact short

theorem State.score_bounded {s : State} (h : s.reports.Bounded) (p : SetIx) (w : Way) (z : Zone)
    (lim : LimitSet) (r : Reading) : (s.score p w z lim r).reports.Bounded := by
  unfold State.score
  split
  · exact h
  · exact h.countScore ..

theorem State.stepExceed_bounded {s : State} (h : s.reports.Bounded) (p : SetIx) (w : Way)
    (f : Slot → Slot × List Notice) : (s.stepExceed p w f).reports.Bounded := by
  unfold State.stepExceed
  split
  · exact h
  · exact h.offerAll _

theorem State.evaluate_bounded {s : State} (h : s.reports.Bounded) (p : SetIx) (own : Bool) (margin x : Nat)
    (hr : Option Int) : (s.evaluate p own margin x hr).reports.Bounded := by
  unfold State.evaluate
  split
  · split
    · exact h
    · exact h.count _
  · split
    · split
      · split
        · simpa using h
        · exact h
      · exact h
    · simpa using h

theorem State.excessTold_bounded {s : State} (h : s.reports.Bounded) (p : SetIx) :
    (s.excessTold p).reports.Bounded := by
  unfold State.excessTold
  split
  · simpa using h.offer _
  · simpa using h

theorem State.stageL1_bounded {s : State} (h : s.reports.Bounded) (st : Stage) (l1 : Option Nat) :
    (s.stageL1 st l1).reports.Bounded := by
  unfold State.stageL1
  simp only
  split
  · split
    · simpa using h.offer _
    · exact h
  · simpa using h

theorem State.workFixed_bounded {s : State} (h : s.reports.Bounded) (p : SetIx) (w : Way) (z : Zone)
    (lim : LimitSet) (r : Reading) : (s.workFixed p w z lim r).reports.Bounded := by
  unfold State.workFixed
  split
  · exact h
  · have evaluated := fun f own m x hr =>
      State.evaluate_bounded (State.stepExceed_bounded (s.score_bounded h p w z lim r) p w f) p own m x hr
    simp only
    split
    · exact State.excessTold_bounded (evaluated _ _ _ _ _) p
    · exact evaluated _ _ _ _ _

theorem State.withEngine_bounded {s : State} (h : s.reports.Bounded) (st : Stage)
    (x : Engine × List Notice) : (s.withEngine st x).reports.Bounded := h.offerAll _

theorem State.workStage_bounded {s : State} (h : s.reports.Bounded) (p : SetIx) (w : Way) (st : Stage)
    (r : Reading) : (s.workStage p w st r).reports.Bounded := by
  have heard := fun l1 => State.stageL1_bounded (s.stepExceed_bounded h p w Slot.exceedEnd) st l1
  unfold State.workStage
  simp only
  split
  · exact State.withEngine_bounded (heard _) ..
  · exact heard _

theorem State.roleWork_bounded {s : State} (h : s.reports.Bounded) (p : SetIx) (w : Way) (u : Use)
    (lim : LimitSet) (r : Reading) : (s.roleWork p w u lim r).reports.Bounded := by
  unfold State.roleWork
  split
  · split
    · exact h
    · exact s.workFixed_bounded h ..
  · split
    · exact h
    · exact s.workFixed_bounded h ..
  · refine State.stepExceed_bounded ?_ ..
    split
    · exact h
    · exact s.score_bounded h ..
  · exact s.workStage_bounded h ..

theorem State.windowWork_bounded {s : State} (h : s.reports.Bounded) (p : SetIx) (w : Way) (r : Reading) :
    (s.windowWork p w r).reports.Bounded := by
  unfold State.windowWork
  split
  · exact h
  · split
    · exact h.count _
    · exact h.count _
    · refine State.roleWork_bounded (s := State.storeFigures _ p w _) ?_ ..
      exact State.refreshSlot_bounded (s.advanceTo_bounded h ..) ..

theorem State.evict_bounded {s t : State} (h : s.reports.Bounded) {p : SetIx} {w : Way} {cause : CloseCause}
    (he : s.evict p w cause = some t) : t.reports.Bounded := by
  unfold State.evict at he
  split at he
  · cases he; exact h
  · split at he
    · split at he
      · next hr => cases he; exact h.offerClosed hr
      · cases he
    · cases he; exact h

theorem State.seat_bounded {s : State} (h : s.reports.Bounded) (r : Reading) :
    (s.seat r).1.reports.Bounded := by
  unfold State.seat
  simp only
  split
  · exact h
  · split
    · exact h.count _
    · split
      · exact h.count _
      · next u he => exact State.evict_bounded (t := u) h he

theorem State.processReading_bounded {s : State} (h : s.reports.Bounded) (r : Reading) :
    (s.processReading r).reports.Bounded := by
  have seated := s.seat_bounded h r
  unfold State.processReading
  split
  · next he => rw [he] at seated; exact State.windowWork_bounded seated ..
  · next he => rw [he] at seated; exact seated

theorem State.tickSlot_bounded {s : State} (h : s.reports.Bounded) (p : SetIx) (w : Way) :
    (s.tickSlot p w).reports.Bounded := by
  unfold State.tickSlot
  split
  · exact h
  · split
    · exact h
    · split
      · simpa using h.offer _
      · exact h

theorem foldl_keeps {σ α : Type} {P : σ → Prop} {f : σ → α → σ} (hf : ∀ s a, P s → P (f s a))
    (l : List α) {s : σ} (hs : P s) : P (l.foldl f s) :=
  List.foldlRecOn l f hs fun s hs a _ => hf s a hs

theorem State.freshnessTick_bounded {s : State} (h : s.reports.Bounded) : s.freshnessTick.reports.Bounded :=
  foldl_keeps (P := fun u : State => u.reports.Bounded)
    (fun _ p hu => State.tickSlot_bounded (State.tickSlot_bounded hu p .zero) p .one) allSets h

/-! ### The limit schedule and the gain engines -/

theorem Ledger.retire_bounded {l : Ledger} (h : l.reports.Bounded) (i : SlotIx) (o : PeriodOutcome) :
    (l.retire i o).reports.Bounded := h.offer _

theorem Ledger.stall_bounded {l : Ledger} (h : l.reports.Bounded) : l.stall.reports.Bounded := by
  unfold Ledger.stall
  split
  · exact h
  · exact h.offer _

theorem Ledger.examine_bounded (fuel : Nat) {l : Ledger} (h : l.reports.Bounded) :
    (l.examine fuel).reports.Bounded := by
  induction fuel generalizing l with
  | zero => exact h
  | succ fuel ih =>
    unfold Ledger.examine
    simp only
    split
    · exact l.stall_bounded h
    · exact h
    · exact ih (l := (l.retire _ _).advance) (l.retire_bounded h ..)
    · exact ih (l := (l.retire _ _).advance) (l.retire_bounded h ..)
    · exact ih (l := (Ledger.takeForce _ _).advance) h

theorem Ledger.retireWhere_bounded {l : Ledger} (h : l.reports.Bounded) (o : PeriodOutcome)
    (cond : Schedule → SlotIx → Bool) : (l.retireWhere o cond).reports.Bounded := by
  refine foldl_keeps (P := fun l : Ledger => l.reports.Bounded) (fun l i hl => ?_) allSlots h
  split
  · exact l.retire_bounded hl ..
  · exact hl

theorem State.permissionClose_bounded {s : State} (h : s.reports.Bounded) (before : Schedule) :
    (s.permissionClose before).reports.Bounded := by
  refine foldl_keeps (P := fun u : State => u.reports.Bounded) (fun u st hu => ?_) allStages h
  split
  · exact hu
  · exact State.withEngine_bounded hu ..

theorem State.schedEvent_bounded {s : State} {f : Ledger → Ledger}
    (h : (f { sched := s.sched, reports := s.reports }).reports.Bounded) : (s.schedEvent f).reports.Bounded :=
  State.permissionClose_bounded h _

/-- The walk and the cut-short phase that end most schedule events. -/
theorem Ledger.walk_cutShort_bounded {l : Ledger} (h : l.reports.Bounded) : l.walk.cutShort.reports.Bounded :=
  Ledger.retireWhere_bounded (Ledger.examine_bounded 33 h) ..

theorem State.clockTick_bounded {s : State} (h : s.reports.Bounded) : s.clockTick.reports.Bounded := by
  unfold State.clockTick
  split
  · exact h
  · exact State.schedEvent_bounded (Ledger.walk_cutShort_bounded (Ledger.retireWhere_bounded h _ _))

theorem State.takeControl_bounded {s : State} (h : s.reports.Bounded) : s.takeControl.reports.Bounded := by
  refine foldl_keeps (P := fun u : State => u.reports.Bounded) (fun u st hu => ?_) allStages h
  split
  · exact State.withEngine_bounded hu ..
  · exact hu

/-! ### The standby monitor and the restarts -/

theorem State.setDark_bounded {s : State} (h : s.reports.Bounded) (enable : Bool) (t d : Nat) :
    (s.setDark enable t d).reports.Bounded := by
  unfold State.setDark
  simp only
  split
  · split
    · exact h.offer _
    · exact h
  · split
    · exact h
    · simp only [State.restartDark_reports]
      exact foldl_keeps (P := fun u : State => u.reports.Bounded) (fun _ _ hu => hu) allStages h

theorem Reports.bounded_empty : Reports.empty.Bounded := ⟨by decide, fun c => by simp [Reports.empty]⟩

theorem State.enforcementRestart_bounded (s : State) : s.enforcementRestart.reports.Bounded := by
  unfold State.enforcementRestart State.enforceStandby
  simp only [State.restartDark_reports]
  split
  · exact Reports.bounded_empty.offer _
  · exact Reports.bounded_empty

theorem State.fullRestart_bounded (s : State) (pins : Straps) : (s.fullRestart pins).reports.Bounded := by
  unfold State.fullRestart
  simp only
  split
  · exact Reports.bounded_empty.offer _
  · exact Reports.bounded_empty

/-! ### The transmitters -/

theorem Reports.Bounded.tail {r : Reports} (h : r.Bounded) {e : NoticeEntry} {rest : List NoticeEntry}
    (hq : r.queue = e :: rest) : ({ r with queue := rest } : Reports).Bounded := by
  obtain ⟨hl, hc⟩ := h
  rw [hq, List.length_cons] at hl
  exact ⟨by simp only; omega, hc⟩

theorem State.chooseFrame_bounded {s : State} (h : s.reports.Bounded) : s.chooseFrame.reports.Bounded := by
  unfold State.chooseFrame
  split
  · exact h
  · split
    · exact h
    · split
      · exact h
      · split
        · next hq => exact h.tail hq
        · exact h

theorem State.transmit_bounded {s : State} (h : s.reports.Bounded) : s.transmit.reports.Bounded := by
  unfold State.transmit
  split
  · exact h
  · exact State.chooseFrame_bounded (by simpa using h)

/-! ### The reading queue -/

theorem clamp_le {lo hi v : Nat} (h : lo ≤ hi) : clamp lo hi v ≤ hi := max_le h (min_le_left _ _)

theorem le_clamp (lo hi v : Nat) : lo ≤ clamp lo hi v := le_max_left _ _

/-- The conversion clamps its figures (R31, R32). -/
theorem convert_inRange (f : MeterFrame) : (convert f).InRange := by
  refine ⟨le_clamp .., clamp_le (by decide), le_clamp .., clamp_le (by decide), fun x hx => ?_⟩
  simp only [convert] at hx
  split at hx
  · cases hx; exact min_le_left _ _
  · cases hx

/-- Both queues within their sizes. -/
def State.QueuesBounded (s : State) : Prop := s.readings.Bounded ∧ s.reports.Bounded

theorem State.QueuesBounded.of_eq {s t : State} (h : s.QueuesBounded) (hr : t.readings = s.readings)
    (hp : t.reports = s.reports) : t.QueuesBounded := ⟨hr ▸ h.1, hp ▸ h.2⟩

theorem State.QueuesBounded.offerReading {s : State} (h : s.QueuesBounded) {r : Reading} (hr : r.InRange) :
    (s.offerReading r).QueuesBounded := by
  obtain ⟨⟨hlen, hin, hheld⟩, hrep⟩ := h
  unfold State.offerReading
  simp only
  split
  · next hf =>
    simp only [ReadingQueue.full, decide_eq_false_iff_not, not_le] at hf
    refine ⟨⟨by simp only [List.length_append, List.length_singleton]; omega, fun x hx => ?_, fun x hx => ?_⟩, hrep⟩
    · rcases List.mem_append.mp hx with hx | hx
      · exact hin x hx
      · rw [List.mem_singleton.mp hx]; exact hr
    · have := (hheld x hx).1
      omega
  · next hf =>
    simp only [ReadingQueue.full, decide_eq_false_iff_not, not_le, not_lt] at hf
    have held : ({ s.readings with holding := some { r with overrun := true } } : ReadingQueue).Bounded :=
      ⟨hlen, hin, fun x hx => by cases hx; exact ⟨by simp only; omega, rfl, hr⟩⟩
    split
    · exact ⟨held, hrep.count _⟩
    · exact ⟨held, hrep⟩

theorem ReadingQueue.Bounded.remove {q q' : ReadingQueue} (h : q.Bounded) {r : Reading}
    (hr : q.remove = some (r, q')) : q'.Bounded := by
  obtain ⟨hlen, hin, hheld⟩ := h
  unfold ReadingQueue.remove at hr
  split at hr
  · cases hr
  · next r rest hq =>
    rw [hq] at hlen hin hheld
    rw [List.length_cons] at hlen
    cases hr
    split
    · next x hx =>
      obtain ⟨hfull, _, hrange⟩ := hheld x hx
      rw [List.length_cons] at hfull
      refine ⟨by simp only [List.length_append, List.length_singleton]; omega, fun y hy => ?_, nofun⟩
      rcases List.mem_append.mp hy with hy | hy
      · exact hin y (List.mem_cons_of_mem _ hy)
      · rw [List.mem_singleton.mp hy]; exact hrange
    · exact ⟨by simp only; omega, fun y hy => hin y (List.mem_cons_of_mem _ hy), nofun⟩

theorem ReadingQueue.bounded_empty : ({ queue := [], holding := none } : ReadingQueue).Bounded :=
  ⟨by decide, nofun, nofun⟩

/-! ### The commands of the meter inputs -/

theorem State.QueuesBounded.switchInput {s : State} (h : s.QueuesBounded) (i : Input) (c : SwitchCause) :
    (s.switchInput i c).QueuesBounded := ⟨h.1, h.2.offer _⟩

theorem State.QueuesBounded.dropMeterFrame {s : State} (h : s.QueuesBounded) (i : Input) :
    (s.dropMeterFrame i).QueuesBounded := ⟨h.1, h.2.count _⟩

theorem State.QueuesBounded.startReturn {s : State} (h : s.QueuesBounded) (i : Input) (b : Bool) :
    (s.startReturn i b).QueuesBounded := by
  unfold State.startReturn
  split
  · exact h.of_eq rfl rfl
  · exact h

theorem State.QueuesBounded.offerWhen {s : State} (h : s.QueuesBounded) (c : Prop) [Decidable c]
    (f : MeterFrame) : (if c then s.offerReading (convert f) else s).QueuesBounded := by
  split
  · exact h.offerReading (convert_inRange f)
  · exact h

theorem State.QueuesBounded.validFrame {s : State} (h : s.QueuesBounded) (i : Input) (f : MeterFrame) :
    (s.validFrame i f).QueuesBounded := by
  have alive : (s.restartAlive i).QueuesBounded := h.of_eq rfl rfl
  unfold State.validFrame
  refine State.QueuesBounded.offerWhen (State.QueuesBounded.startReturn ?_ i _) _ f
  split
  · exact alive.switchInput i .revival
  · exact alive

theorem State.QueuesBounded.meterBreak {s : State} (h : s.QueuesBounded) (i : Input) :
    (s.meterBreak i).QueuesBounded := by
  unfold State.meterBreak
  split
  · exact h
  · exact h.dropMeterFrame i

theorem State.QueuesBounded.meterCharacter {s : State} (h : s.QueuesBounded) (i : Input) (c : Byte)
    (good : Bool) : (s.meterCharacter i c good).QueuesBounded := by
  unfold State.meterCharacter
  split
  · exact h.meterBreak i
  · split
    · split
      · exact h
      · exact h
    · split
      · exact h
      · unfold State.completeMeterFrame
        split
        · exact State.QueuesBounded.validFrame (s := s.huntMeter i) h i _
        · exact h.dropMeterFrame i

theorem State.QueuesBounded.meterGapExpiry {s : State} (h : s.QueuesBounded) (i : Input) :
    (s.meterGapExpiry i).QueuesBounded := by
  unfold State.meterGapExpiry
  split
  · exact h
  · exact State.QueuesBounded.dropMeterFrame (s := s.reach _) h i

theorem State.QueuesBounded.aliveExpiry {s : State} (h : s.QueuesBounded) (i : Input) :
    (s.aliveExpiry i).QueuesBounded := by
  unfold State.aliveExpiry
  split
  · exact h
  · simp only
    split
    · exact h
    · split
      · split
        · exact ⟨h.1, h.2.offer _⟩
        · exact h
      · split
        · exact h
        · exact h

theorem State.QueuesBounded.returnExpiry {s : State} (h : s.QueuesBounded) : s.returnExpiry.QueuesBounded := by
  unfold State.returnExpiry
  split
  · exact h
  · exact State.QueuesBounded.switchInput (s := s.reach _) h _ _

theorem State.QueuesBounded.takeReading {s : State} (h : s.QueuesBounded) : s.takeReading.QueuesBounded := by
  unfold State.takeReading
  split
  · exact h
  · next r q hq =>
    exact ⟨by simpa using h.1.remove hq, State.processReading_bounded (s := { s with readings := q }) h.2 r⟩

/-! ### The other commands -/

theorem State.readings_freshnessTick (s : State) : s.freshnessTick.readings = s.readings :=
  foldl_keeps (P := fun u : State => u.readings = s.readings)
    (fun u p hu => ((State.tickSlot_readings _ p .one).trans (u.tickSlot_readings p .zero)).trans hu) allSets rfl

theorem State.QueuesBounded.freezeExpiry {s : State} (h : s.QueuesBounded) (p : SetIx) :
    (s.freezeExpiry p).QueuesBounded := by
  unfold State.freezeExpiry
  split
  · exact ⟨by simpa using h.1, by simpa using h.2⟩
  · exact h
  · exact h

theorem State.QueuesBounded.schedEvent {s : State} (h : s.QueuesBounded) {f : Ledger → Ledger}
    (hf : (f { sched := s.sched, reports := s.reports }).reports.Bounded) : (s.schedEvent f).QueuesBounded :=
  ⟨by simpa [State.schedEvent] using h.1, State.schedEvent_bounded hf⟩

theorem State.QueuesBounded.clockTick {s : State} (h : s.QueuesBounded) : s.clockTick.QueuesBounded := by
  refine ⟨?_, State.clockTick_bounded h.2⟩
  unfold State.clockTick
  split
  · exact h.1
  · simpa [State.schedEvent] using h.1

theorem State.QueuesBounded.stepTick {s : State} (h : s.QueuesBounded) (st : Stage) :
    (s.stepTick st).QueuesBounded := ⟨h.1, State.withEngine_bounded (s := s.reach _) h.2 st _⟩

theorem State.QueuesBounded.frameSent {s : State} (h : s.QueuesBounded) (pins : Straps) :
    (s.frameSent pins).QueuesBounded := by
  unfold State.frameSent
  split
  · exact h
  · simp only
    split
    · exact h.of_eq rfl rfl
    · exact h.of_eq rfl rfl
    · exact h.of_eq rfl rfl
    · split
      · exact h.of_eq rfl rfl
      · refine ⟨?_, State.fullRestart_bounded _ _⟩
        unfold State.fullRestart
        simp only
        split <;> exact ReadingQueue.bounded_empty
      · refine ⟨?_, State.enforcementRestart_bounded _⟩
        simp only [State.enforcementRestart, State.enforceStandby_readings]
        exact ReadingQueue.bounded_empty

theorem State.QueuesBounded.tableChanged {s : State} (h : s.QueuesBounded) (before : State) (p : SetIx) :
    (s.tableChanged before p).QueuesBounded := ⟨by simpa using h.1, by simpa using h.2⟩

theorem State.QueuesBounded.evict {s t : State} (h : s.QueuesBounded) {p : SetIx} {w : Way}
    {cause : CloseCause} (he : s.evict p w cause = some t) : t.QueuesBounded := by
  refine ⟨?_, State.evict_bounded h.2 he⟩
  obtain ⟨_, _, _, rfl⟩ := State.evict_frame he
  exact h.1

/-! ### The owners of requests -/

theorem State.QueuesBounded.placePoint {s : State} (h : s.QueuesBounded) (pt : PointId) (u : Use)
    (l : Bool) : (s.placePoint pt u l).2.QueuesBounded := by
  unfold State.placePoint
  simp only
  split
  · exact h
  · split
    · exact h
    · next w _ _ s1 he =>
      have filled : ((s1.fill w pt u l).touch (setOf pt) w).QueuesBounded := (h.evict he).of_eq rfl rfl
      exact filled.tableChanged s _

theorem State.QueuesBounded.declare {s : State} (h : s.QueuesBounded) (pt : PointId) (u : Use) (l : Bool) :
    (s.declare pt u l).2.QueuesBounded := by
  unfold State.declare
  simp only
  split
  · exact h
  · split
    · exact h
    · split
      · have changed : ∀ ps, ({ s with points := ps } : State).QueuesBounded := fun ps => h.of_eq rfl rfl
        exact (changed _).tableChanged s _
      · exact h.placePoint pt u l

theorem State.QueuesBounded.takeControl {s : State} (h : s.QueuesBounded) : s.takeControl.QueuesBounded :=
  ⟨by simpa using h.1, State.takeControl_bounded h.2⟩

section Owners

variable {s : State} (h : s.QueuesBounded)
include h

theorem ownSetTime_queuesBounded (t : Nat) : (ownSetTime t s).2.QueuesBounded := by
  unfold ownSetTime
  simp only
  split
  · exact h
  · exact h.of_eq rfl rfl

theorem ownStart_queuesBounded : (ownStart s).2.QueuesBounded := by
  unfold ownStart
  simp only
  split
  · dsimp only
    exact h.takeControl
  · exact h

theorem ownRestart_queuesBounded (x : Nat) : (ownRestart x s).2.QueuesBounded := by
  unfold ownRestart
  split
  · exact h.of_eq rfl rfl
  · split
    · exact h.of_eq rfl rfl
    · exact h

theorem ownDeclare_queuesBounded (id r pl l : Nat) : (ownDeclare id r pl l s).2.QueuesBounded := by
  unfold ownDeclare
  split
  · split
    · exact h
    · exact h.declare ..
  · exact h
  · exact h
  · exact h

theorem ownRelease_queuesBounded (id : Nat) : (ownRelease id s).2.QueuesBounded := by
  unfold ownRelease
  split
  · exact h
  · simp only
    split
    · exact h
    · split
      · exact h
      · next he => exact (h.evict he).tableChanged _ _

theorem ownSetCoupling_queuesBounded (st p a : Nat) : (ownSetCoupling st p a s).2.QueuesBounded := by
  unfold ownSetCoupling
  split
  · split
    · exact h
    · exact h.of_eq (by simp) (by simp)
  · exact h
  · exact h

theorem ownPost_queuesBounded (i : Nat) (f : PostedFields) : (ownPost i f s).2.QueuesBounded := by
  unfold ownPost
  split
  · exact h
  · split
    · exact h
    · dsimp only
      refine State.QueuesBounded.schedEvent h ?_
      exact (Ledger.walk_cutShort_bounded h.2)

theorem ownRecall_queuesBounded (i : Nat) : (ownRecall i s).2.QueuesBounded := by
  unfold ownRecall
  split
  · exact h
  · split
    · exact h
    · exact h
    · exact h
    · dsimp only
      refine State.QueuesBounded.schedEvent h ?_
      exact (Ledger.retireWhere_bounded (Ledger.retire_bounded h.2 ..) ..)
    · dsimp only
      refine State.QueuesBounded.schedEvent h ?_
      exact (Ledger.walk_cutShort_bounded (l := (Ledger.retire _ _ _).advance) (Ledger.retire_bounded h.2 ..))

theorem ownSetDark_queuesBounded (e t d : Nat) : (ownSetDark e t d s).2.QueuesBounded := by
  unfold ownSetDark
  split
  · exact h
  · exact ⟨by simpa using h.1, State.setDark_bounded h.2 ..⟩

theorem ownReadCounters_queuesBounded (c : Nat) : (ownReadCounters c s).2.QueuesBounded := by
  unfold ownReadCounters
  split
  · exact h
  · simp only
    split
    · exact ⟨h.1, h.2.1, fun c => by simp⟩
    · exact h

end Owners

/-- The requests that only read leave the state as it is. -/
theorem ownReadPoint_state (id : Nat) (s : State) : (ownReadPoint id s).2 = s := by
  unfold ownReadPoint
  split
  · rfl
  · simp only
    split
    · rfl
    · split <;> rfl

theorem ownReadPeriod_state (i : Nat) (s : State) : (ownReadPeriod i s).2 = s := by
  unfold ownReadPeriod
  split <;> rfl

theorem ownReadStage_state (st : Nat) (s : State) : (ownReadStage st s).2 = s := by
  unfold ownReadStage
  split <;> rfl

/-- The history unit's requests write its own record alone. -/
theorem ownExport_frame (seq : Byte) (id m b n : Nat) (s : State) :
    ∃ x, (ownExport seq id m b n s).2 = { s with exporter := x } := by
  unfold ownExport
  simp only
  split
  · split
    · exact ⟨_, rfl⟩
    · split
      · exact ⟨_, rfl⟩
      · split <;> exact ⟨_, rfl⟩
  · split <;> exact ⟨_, rfl⟩

theorem ownAbort_frame (s : State) : ∃ x, (ownAbort s).2 = { s with exporter := x } := by
  unfold ownAbort
  split
  · exact ⟨_, rfl⟩
  · split <;> exact ⟨_, rfl⟩

/-- Every owner of a request keeps both queues within their sizes. -/
theorem State.QueuesBounded.ownerReply {s : State} (h : s.QueuesBounded) (k : RequestKind) (seq : Byte)
    (body : List Byte) (hl : body.length = k.length) : (ownerReply k seq body s).2.QueuesBounded := by
  refine ownerReply_induct (P := fun r => r.2.QueuesBounded) hl h (ownSetTime_queuesBounded h) h
    (ownStart_queuesBounded h) (ownRestart_queuesBounded h) (ownDeclare_queuesBounded h)
    (ownRelease_queuesBounded h) (fun id => (ownReadPoint_state id s).symm ▸ h)
    (ownSetCoupling_queuesBounded h) (ownPost_queuesBounded h) (fun i => (ownReadPeriod_state i s).symm ▸ h)
    (ownRecall_queuesBounded h) (fun f => h.schedEvent h.2) ?rates
    (fun st => (ownReadStage_state st s).symm ▸ h) (ownSetDark_queuesBounded h)
    (ownReadCounters_queuesBounded h) ?history ?stop
  case rates =>
    intro st a r hd
    unfold ownSetRates
    split
    · exact h
    · exact h.of_eq rfl rfl
  case history =>
    intro id m b n
    obtain ⟨x, hx⟩ := ownExport_frame seq id m b n s
    exact hx ▸ h.of_eq rfl rfl
  case stop =>
    obtain ⟨x, hx⟩ := ownAbort_frame s
    exact hx ▸ h.of_eq rfl rfl

theorem State.QueuesBounded.transmit {s : State} (h : s.QueuesBounded) : s.transmit.QueuesBounded :=
  ⟨by simpa using h.1, State.transmit_bounded h.2⟩

theorem State.QueuesBounded.darkExpiry {s : State} (h : s.QueuesBounded) : s.darkExpiry.QueuesBounded := by
  unfold State.darkExpiry
  split
  · exact h
  · exact ⟨h.1, h.2.offer _⟩

theorem State.QueuesBounded.freshnessTick {s : State} (h : s.QueuesBounded) : s.freshnessTick.QueuesBounded :=
  ⟨by rw [State.readings_freshnessTick]; exact h.1, State.freshnessTick_bounded h.2⟩

/-- Every command keeps both queues within their sizes. -/
theorem State.QueuesBounded.exec {s : State} (h : s.QueuesBounded) (c : Instr) :
    ∃ t, exec c s = .next t ∧ t.QueuesBounded := by
  have hunt : s.huntConsole.QueuesBounded := h.of_eq rfl rfl
  have console : ∀ (u : State) c, u.QueuesBounded → ({ u with console := c } : State).QueuesBounded :=
    fun u c hu => hu.of_eq rfl rfl
  refine exec_induct (P := State.QueuesBounded) c (fun u hu => hu.transmit) h (fun _ => h.of_eq rfl rfl)
    (fun _ _ => ⟨ReadingQueue.bounded_empty, Reports.bounded_empty⟩) h.meterCharacter
    (fun i => State.QueuesBounded.validFrame (s := s.huntMeter i) (h.of_eq rfl rfl) i) h.dropMeterFrame
    h.meterGapExpiry h.meterBreak
    h.aliveExpiry h.returnExpiry h.takeReading h.freshnessTick h.freezeExpiry h.clockTick h.stepTick
    ?hold ?release ?refresh ?order h.darkExpiry
    (State.consoleCharacter_keeps console h hunt.ownerReply) hunt ?gap h.frameSent
    (State.requestFrame_keeps console h hunt.ownerReply)
  case hold => intro st; unfold State.holdExpiry; split <;> exact h.of_eq rfl rfl
  case release => intro st; unfold State.releaseTick; split <;> exact h.of_eq rfl rfl
  case refresh => intro st; unfold State.refreshExpiry; split <;> exact h.of_eq rfl rfl
  case order => unfold State.orderSent; split <;> exact h.of_eq rfl rfl
  case gap => unfold State.consoleGapExpiry; split <;> exact h.of_eq rfl rfl

/-- Settles O57: every command keeps both queues within their sizes, so every step does. -/
theorem stepsKeepQueuesAndCountersInBounds : Obligations.StepsKeepQueuesAndCountersInBounds :=
  fun _ _ hreadings hreports => step_keeps (P := State.QueuesBounded) (fun _ _ h => h) (fun _ _ h => h)
    (fun _ h => h.transmit) (fun c _ h => h.exec c) ⟨hreadings, hreports⟩

end Sys2Proof.Machine

/-! What keeps the point table legal (3.1, 4.1, 6.4): operations that keep every declaration, the windows of
the slots, and the columns that no point owns. -/

namespace Sys2Proof.Machine

/-! ### What retargeting leaves of the control block -/

@[simp] theorem State.retarget_coupling (s : State) : s.retarget.control.coupling = s.control.coupling := by
  obtain ⟨_, _, h⟩ := s.retarget_frame; rw [h]
@[simp] theorem State.retarget_needs (s : State) : s.retarget.control.needs = s.control.needs := by
  obtain ⟨_, _, h⟩ := s.retarget_frame; rw [h]
@[simp] theorem State.retarget_freeze (s : State) : s.retarget.control.freeze = s.control.freeze := by
  obtain ⟨_, _, h⟩ := s.retarget_frame; rw [h]
@[simp] theorem State.controlEvent_coupling (s : State) (c : Control) :
    (s.controlEvent c).control.coupling = c.coupling := by
  rw [State.controlEvent, State.retarget_coupling]
@[simp] theorem State.controlEvent_needs (s : State) (c : Control) :
    (s.controlEvent c).control.needs = c.needs := by
  rw [State.controlEvent, State.retarget_needs]
@[simp] theorem State.controlEvent_freeze (s : State) (c : Control) :
    (s.controlEvent c).control.freeze = c.freeze := by
  rw [State.controlEvent, State.retarget_freeze]
@[simp] theorem State.evaluate_coupling (s : State) (p : SetIx) (own : Bool) (m x : Nat) (h : Option Int) :
    (s.evaluate p own m x h).control.coupling = s.control.coupling := by
  obtain ⟨_, _, _, _, he⟩ := s.evaluate_frame p own m x h; rw [he]
@[simp] theorem State.evaluate_freeze (s : State) (p : SetIx) (own : Bool) (m x : Nat) (h : Option Int) :
    (s.evaluate p own m x h).control.freeze = s.control.freeze := by
  obtain ⟨_, _, _, _, he⟩ := s.evaluate_frame p own m x h; rw [he]

/-! ### Declarations, windows and columns -/

/-- What a declaration says of a slot. -/
def Slot.declared (sl : Slot) : PointId × Use × Bool := (sl.point, sl.use, sl.locked)

theorem Slot.declared_eq_iff {a b : Slot} :
    a.declared = b.declared ↔ a.point = b.point ∧ a.use = b.use ∧ a.locked = b.locked := by
  simp [Slot.declared]

/-- What PointsLegal asks of a slot's minute number and window record. -/
def Slot.WindowLegal (sl : Slot) : Prop := sl.minute ≤ Config.max32 ∧ sl.win.Legal

/-- A column that no point owns: ACTIVE and without couplings (R42, R116). -/
def Control.Idle (c : Control) (p : SetIx) : Prop := c.freeze[p] = .active ∧ ∀ st, c.couplingAt st p = none

theorem Control.Idle.of_eq {c d : Control} {p : SetIx} (h : c.Idle p) (hf : d.freeze = c.freeze)
    (hc : d.coupling = c.coupling) : d.Idle p := by
  obtain ⟨hact, hun⟩ := h
  exact ⟨by rw [hf]; exact hact, fun st => by simpa [Control.couplingAt, hc] using hun st⟩

theorem PointSet.owner_congr {ps ps' : PointSet}
    (h : ps'.way1.map Slot.declared = ps.way1.map Slot.declared) : ps'.owner = ps.owner := by
  unfold PointSet.owner
  cases h1 : ps.way1 <;> cases h2 : ps'.way1 <;> rw [h1, h2] at h
  · cases h
  · cases h
  · obtain ⟨hp, hu, hl⟩ := Slot.declared_eq_iff.mp (Option.some.inj h)
    simp only [hp, hu, hl]

/-- From s to t every declaration stands, no window record leaves its bounds, and a column without an
owner stays idle. -/
structure TableKept (s t : State) : Prop where
  declared : ∀ p w, (t.slotAt p w).map Slot.declared = (s.slotAt p w).map Slot.declared
  windows : ∀ p w sl, t.slotAt p w = some sl →
    (∀ sl', s.slotAt p w = some sl' → sl'.WindowLegal) → sl.WindowLegal
  columns : ∀ p : SetIx, (s.points[p]).owner = none → s.control.Idle p → t.control.Idle p

namespace TableKept

variable {s t u : State}

theorem owner_eq (h : TableKept s t) (p : SetIx) : (t.points[p]).owner = (s.points[p]).owner :=
  PointSet.owner_congr (h.declared p .one)

theorem of_eq (hp : t.points = s.points) (hf : t.control.freeze = s.control.freeze)
    (hc : t.control.coupling = s.control.coupling) : TableKept s t where
  declared p w := by rw [State.slotAt_congr hp]
  windows p w sl hsl hw := hw sl ((State.slotAt_congr hp p w).symm.trans hsl)
  columns _ _ hi := hi.of_eq hf hc

theorem refl (s : State) : TableKept s s := .of_eq rfl rfl rfl

theorem trans (h : TableKept s t) (h' : TableKept t u) : TableKept s u where
  declared p w := (h'.declared p w).trans (h.declared p w)
  windows p w sl hsl hw := h'.windows p w sl hsl fun sl' hsl' => h.windows p w sl' hsl' hw
  columns p ho hi := h'.columns p ((h.owner_eq p).trans ho) (h.columns p ho hi)

theorem putSlot {p : SetIx} {w : Way} {sl sl' : Slot} (h : s.slotAt p w = some sl)
    (hd : sl'.declared = sl.declared) (hw : sl.WindowLegal → sl'.WindowLegal) :
    TableKept s (s.putSlot p w (some sl')) where
  declared q v := by
    rw [State.slotAt_putSlot]
    split
    · next hq => obtain ⟨rfl, rfl⟩ := hq; simp [h, hd]
    · rfl
  windows q v x hx hs := by
    rw [State.slotAt_putSlot] at hx
    split at hx
    · next hq => obtain ⟨rfl, rfl⟩ := hq; cases hx; exact hw (hs sl h)
    · exact hs x hx
  columns _ _ hi := hi.of_eq rfl rfl

theorem write {p : SetIx} {w : Way} {sl sl' : Slot} (h : s.slotAt p w = some sl)
    (hd : sl'.declared = sl.declared) (hw : sl.WindowLegal → sl'.WindowLegal)
    (hp : t.points = (s.putSlot p w (some sl')).points) (hf : t.control.freeze = s.control.freeze)
    (hc : t.control.coupling = s.control.coupling) : TableKept s t :=
  (putSlot h hd hw).trans (.of_eq hp hf hc)

/-- A fold keeps the table when every step does. -/
theorem foldl {α : Type} {f : State → α → State} (hf : ∀ s a, TableKept s (f s a)) (l : List α) (s : State) :
    TableKept s (l.foldl f s) :=
  foldl_relates (R := TableKept) refl (fun _ _ _ => trans) hf l s

end TableKept

/-! ### The window record through a reading -/

theorem Slot.exceedStep_declared (sl : Slot) (x : Nat) (k : Option LimitKind) :
    (sl.exceedStep x k).1.declared = sl.declared := by
  obtain ⟨hp, hu, hl, _⟩ := sl.exceedStep_same x k
  exact Slot.declared_eq_iff.mpr ⟨hp, hu, hl⟩

theorem Slot.exceedEnd_declared (sl : Slot) : sl.exceedEnd.1.declared = sl.declared := by
  obtain ⟨hp, hu, hl, _⟩ := sl.exceedEnd_same
  exact Slot.declared_eq_iff.mpr ⟨hp, hu, hl⟩

theorem WindowRecord.Legal.with_clear {v : WindowRecord} (h : v.Legal) {c : Nat} (hc : c ≤ 9) (e : Bool) :
    ({ v with exceeding := e, clear := c } : WindowRecord).Legal := by
  obtain ⟨h1, h2, h3, h4, h5, h6, _, h8⟩ := h
  exact ⟨h1, h2, h3, h4, h5, h6, hc, h8⟩

theorem Slot.WindowLegal.exceedStep {sl : Slot} (h : sl.WindowLegal) (x : Nat) (k : Option LimitKind) :
    (sl.exceedStep x k).1.WindowLegal := by
  obtain ⟨hm, hw⟩ := h
  unfold Slot.exceedStep
  split
  · split
    · exact ⟨hm, hw.with_clear (by decide) _⟩
    · split
      · exact ⟨hm, hw.with_clear (by decide) _⟩
      · exact ⟨hm, hw.with_clear (by omega) _⟩
  · split
    · exact ⟨hm, hw.with_clear (by decide) _⟩
    · exact ⟨hm, hw⟩

theorem Slot.WindowLegal.exceedEnd {sl : Slot} (h : sl.WindowLegal) : sl.exceedEnd.1.WindowLegal := by
  unfold Slot.exceedEnd
  split
  · exact ⟨h.1, h.2.with_clear (by decide) _⟩
  · exact h

theorem Slot.WindowLegal.scored {sl : Slot} (h : sl.WindowLegal) (lim : LimitSet) (r : Reading) :
    (sl.scored lim r).WindowLegal := by
  obtain ⟨hm, h1, h2, h3, h4, h5, h6, h7, h8⟩ := h
  refine ⟨hm, h1, h2, h3, h4, h5, h6, h7, ?_⟩
  simp only [Slot.scored]
  split
  · exact min_le_right _ _
  · exact h8

theorem Slot.WindowLegal.marked {sl : Slot} (h : sl.WindowLegal) (r : Reading) : (sl.marked r).WindowLegal := by
  obtain ⟨hm, h1, h2, h3, h4, _, _, h7, h8⟩ := h
  exact ⟨hm, h1, h2, h3, h4, Nat.zero_le _, fun _ => (by decide : (0 : Nat) < 60), h7, h8⟩

theorem Slot.WindowLegal.figures {sl : Slot} (h : sl.WindowLegal) (lim : LimitSet) :
    (sl.figures lim).WindowLegal := h

theorem WindowRecord.legal_empty : WindowRecord.empty.Legal := by
  refine ⟨?_, ?_, ?_, ?_, ?_, ?_, ?_, ?_⟩ <;> simp [WindowRecord.empty, OpenMinute.empty]

/-- A close keeps at most fifteen minutes of at most 60 readings (R56, R62). -/
theorem Bench.closeMinute_windowLegal {b : Bench} (hw : ({ b.slot.win with cur := OpenMinute.empty } : WindowRecord).Legal)
    (hc : b.slot.win.cur.count ≤ 60) (dark : Bool) (lim : LimitSet) :
    (b.closeMinute dark lim).slot.WindowLegal := by
  obtain ⟨_, hcounts, h3, h4, h5, h6, h7, h8⟩ := hw
  have ring : ∀ m : MinuteRecord, m.count ≤ 60 → ∀ x ∈ (m :: b.slot.win.minutes).take 15, x.count ≤ 60 := by
    intro m hnew x hx
    rcases List.mem_cons.mp (List.mem_of_mem_take hx) with rfl | hx
    · exact hnew
    · exact hcounts x hx
  unfold Bench.closeMinute
  simp only
  split
  · exact ⟨min_le_right _ _, List.length_take_le .., ring _ hc, h3, h4, h5, h6, h7, Nat.zero_le _⟩
  · exact ⟨min_le_right _ _, List.length_take_le .., ring _ hc, h3, h4, h5, h6, h7, h8⟩

theorem Bench.second_windowLegal {b : Bench} (h : b.slot.WindowLegal) (dark : Bool) (lim : LimitSet)
    (e : Option Nat) {cur : OpenMinute} (he : cur.elapsed < 60) (hc : cur.count ≤ cur.elapsed + 1) :
    (b.second dark lim e cur).slot.WindowLegal := by
  obtain ⟨hm, h1, h2, _, _, h5, h6, h7, h8⟩ := h
  unfold Bench.second
  simp only
  split
  · have open_ : OpenMinute.empty.elapsed < 60 ∧ OpenMinute.empty.count ≤ OpenMinute.empty.elapsed := by decide
    refine Bench.closeMinute_windowLegal ?_ ?_ dark lim
    · exact ⟨h1, h2, open_.1, open_.2, h5, h6, h7, h8⟩
    · exact hc.trans he
  · exact ⟨hm, h1, h2, by simp only; omega, by simp only; omega, h5, h6, h7, h8⟩

theorem Bench.emptySeconds_windowLegal {b : Bench} (h : b.slot.WindowLegal) (dark : Bool) (lim : LimitSet)
    (n : Nat) : (b.emptySeconds dark lim n).slot.WindowLegal := by
  induction n generalizing b with
  | zero => exact h
  | succ n ih =>
    obtain ⟨_, _, _, he, hc, _⟩ := id h
    exact ih (Bench.second_windowLegal h dark lim none he (by omega))

theorem Bench.place_windowLegal {b : Bench} (h : b.slot.WindowLegal) (dark : Bool) (lim : LimitSet)
    (r : Reading) : (b.place dark lim r).slot.WindowLegal := by
  obtain ⟨_, _, _, he, hc, _⟩ := id h
  unfold Bench.place
  refine Bench.second_windowLegal h dark lim _ ?_ ?_
  · unfold OpenMinute.take; split <;> exact he
  · unfold OpenMinute.take; split <;> simp only <;> omega

theorem Bench.second_declared (b : Bench) (dark : Bool) (lim : LimitSet) (e : Option Nat)
    (cur : OpenMinute) : (b.second dark lim e cur).slot.declared = b.slot.declared := by
  obtain ⟨hp, hu, hl, _⟩ := b.second_keeps dark lim e cur
  exact Slot.declared_eq_iff.mpr ⟨hp, hu, hl⟩

theorem Bench.emptySeconds_declared (b : Bench) (dark : Bool) (lim : LimitSet) (n : Nat) :
    (b.emptySeconds dark lim n).slot.declared = b.slot.declared := by
  obtain ⟨hp, hu, hl, _⟩ := b.emptySeconds_keeps dark lim n
  exact Slot.declared_eq_iff.mpr ⟨hp, hu, hl⟩

/-! ### The stages of a reading keep the table -/

theorem State.advanceTo_kept {s : State} {p : SetIx} {w : Way} {sl : Slot} (h : s.slotAt p w = some sl)
    (lim : LimitSet) (n : Nat) (r : Reading) : TableKept s (s.advanceTo p w sl lim n r) := by
  refine TableKept.write h ?_ (fun hw => ?_) rfl rfl rfl
  · exact (Bench.second_declared ..).trans (Bench.emptySeconds_declared ..)
  · exact Bench.place_windowLegal (Bench.emptySeconds_windowLegal (b := { slot := sl, reports := s.reports }) hw ..) ..

theorem State.offer_kept (s : State) (n : Notice) : TableKept s (s.offer n) := .of_eq rfl rfl rfl

theorem State.evaluate_kept (s : State) (p : SetIx) (own : Bool) (m x : Nat) (h : Option Int) :
    TableKept s (s.evaluate p own m x h) :=
  .of_eq (s.evaluate_points ..) (s.evaluate_freeze ..) (s.evaluate_coupling ..)

theorem State.excessTold_kept (s : State) (p : SetIx) : TableKept s (s.excessTold p) :=
  .of_eq (by simp) (by simp) (by simp)

theorem State.stageL1_kept (s : State) (st : Stage) (l1 : Option Nat) : TableKept s (s.stageL1 st l1) :=
  .of_eq (by simp) (by simp) (by simp)

theorem State.tellFresh_kept (s : State) (p : SetIx) (sl : Slot) : TableKept s (s.tellFresh p sl) := by
  have thaw : TableKept s (s.thawSet p) :=
    { declared := fun _ _ => rfl
      windows := fun _ _ sl hsl hw => hw sl hsl
      columns := fun q _ ⟨hf, hc⟩ => ⟨by
        by_cases hq : p.val = q.val
        · simp [State.thawSet, Control.setFreeze, hq]
        · simpa [State.thawSet, Control.setFreeze, hq] using hf, hc⟩ }
  unfold State.tellFresh
  split
  · split
    · exact thaw
    · exact .refl s
  · split
    · exact thaw
    · exact .refl s
  · exact .of_eq (by simp) (by simp) (by simp)
  · exact .refl s

theorem State.refreshSlot_kept (s : State) (p : SetIx) (w : Way) (r : Reading) :
    TableKept s (s.refreshSlot p w r) := by
  unfold State.refreshSlot
  split
  · exact .refl s
  · next sl hsl =>
    have marked : TableKept s ((s.putSlot p w (some (sl.marked r))).touch p w) := by
      refine (TableKept.putSlot (sl' := sl.marked r) hsl rfl fun hw => hw.marked r).trans ?_
      exact { declared := fun q v => by rw [State.slotAt_touch]
              windows := fun q v x hx hw => hw x (by rwa [State.slotAt_touch] at hx)
              columns := fun _ _ hi => hi }
    have told : TableKept s (if sl.win.stale = true then
        (((s.putSlot p w (some (sl.marked r))).touch p w).offer
          (.pointFresh sl.point sl.use r.stamp)).tellFresh p (sl.marked r)
        else (s.putSlot p w (some (sl.marked r))).touch p w) := by
      split
      · exact (marked.trans (State.offer_kept _ _)).trans (State.tellFresh_kept _ _ _)
      · exact marked
    simp only
    split
    · exact told.trans (.of_eq rfl rfl rfl)
    · exact told

theorem State.storeFigures_kept (s : State) (p : SetIx) (w : Way) (lim : LimitSet) :
    TableKept s (s.storeFigures p w lim) := by
  unfold State.storeFigures
  cases h : s.slotAt p w with
  | none => exact .of_eq (by rw [Option.map_none, ← h, s.putSlot_slotAt]) rfl rfl
  | some sl => exact TableKept.putSlot h rfl fun hw => hw.figures lim

theorem State.stepExceed_kept (s : State) (p : SetIx) (w : Way) {f : Slot → Slot × List Notice}
    (hd : ∀ sl, (f sl).1.declared = sl.declared) (hw : ∀ sl, sl.WindowLegal → (f sl).1.WindowLegal) :
    TableKept s (s.stepExceed p w f) := by
  unfold State.stepExceed
  split
  · exact .refl s
  · next sl h => exact (TableKept.putSlot h (hd sl) (hw sl)).trans (.of_eq rfl rfl rfl)

theorem State.exceedEnd_kept (s : State) (p : SetIx) (w : Way) : TableKept s (s.stepExceed p w Slot.exceedEnd) :=
  s.stepExceed_kept p w Slot.exceedEnd_declared fun _ h => h.exceedEnd

theorem State.score_kept (s : State) (p : SetIx) (w : Way) (z : Zone) (lim : LimitSet) (r : Reading) :
    TableKept s (s.score p w z lim r) := by
  unfold State.score
  split
  · exact .refl s
  · next sl h =>
    exact TableKept.write (sl' := sl.scored lim r) h rfl (fun hw => hw.scored lim r) rfl rfl rfl

theorem State.workFixed_kept (s : State) (p : SetIx) (w : Way) (z : Zone) (lim : LimitSet) (r : Reading) :
    TableKept s (s.workFixed p w z lim r) := by
  unfold State.workFixed
  split
  · exact .refl s
  · have evaluated := fun x k own m x' h => ((s.score_kept p w z lim r).trans
      ((s.score p w z lim r).stepExceed_kept p w (f := fun t => t.exceedStep x k)
        (fun sl => sl.exceedStep_declared x k) fun _ h => h.exceedStep x k)).trans
      (State.evaluate_kept _ p own m x' h)
    simp only
    split
    · exact (evaluated _ _ _ _ _ _).trans (State.excessTold_kept _ p)
    · exact evaluated _ _ _ _ _ _

theorem State.workStage_kept (s : State) (p : SetIx) (w : Way) (st : Stage) (r : Reading) :
    TableKept s (s.workStage p w st r) := by
  have heard := fun l1 => (s.exceedEnd_kept p w).trans
    (State.stageL1_kept _ st l1)
  unfold State.workStage
  simp only
  split
  · exact (heard _).trans (.of_eq rfl rfl rfl)
  · exact heard _

theorem State.roleWork_kept (s : State) (p : SetIx) (w : Way) (u : Use) (lim : LimitSet) (r : Reading) :
    TableKept s (s.roleWork p w u lim r) := by
  unfold State.roleWork
  split
  · split
    · exact .refl s
    · exact s.workFixed_kept ..
  · split
    · exact .refl s
    · exact s.workFixed_kept ..
  · refine TableKept.trans ?_ (State.exceedEnd_kept _ p w)
    split
    · exact .refl s
    · exact s.score_kept ..
  · exact s.workStage_kept ..

theorem State.windowWork_kept (s : State) (p : SetIx) (w : Way) (r : Reading) :
    TableKept s (s.windowWork p w r) := by
  unfold State.windowWork
  split
  · exact .refl s
  · next sl hsl =>
    split
    · exact .of_eq rfl rfl rfl
    · exact .of_eq rfl rfl rfl
    · exact (((State.advanceTo_kept hsl _ _ r).trans (State.refreshSlot_kept _ p w r)).trans
        (State.storeFigures_kept _ p w _)).trans (State.roleWork_kept _ p w _ _ r)

/-! ### The freshness tick keeps the table -/

theorem State.tellStale_kept (s : State) (p : SetIx) (sl : Slot) : TableKept s (s.tellStale p sl) := by
  have freeze : (s.points[p]).owner = some sl.point → TableKept s (s.freezeSet p) := fun ho =>
    { declared := fun q v => by rw [State.slotAt_congr]; unfold State.freezeSet; split <;> rfl
      windows := fun q v x hx hw => hw x (by
        rwa [State.slotAt_congr] at hx; unfold State.freezeSet; split <;> rfl)
      columns := fun q hq hi => by
        have hpq : p.val ≠ q.val := fun e => by rw [Fin.ext e, hq] at ho; cases ho
        obtain ⟨hf, hc⟩ := hi
        unfold State.freezeSet
        split
        · exact ⟨by simpa [Control.setFreeze, hpq] using hf, hc⟩
        · exact ⟨hf, hc⟩
        · exact ⟨hf, hc⟩ }
  unfold State.tellStale
  split
  · split
    · next ho => exact freeze ho
    · exact .refl s
  · split
    · next ho => exact freeze ho
    · exact .refl s
  · exact .of_eq (by simp) (by simp) (by simp)
  · exact .refl s

theorem staleTicks_le (strap : Fin 2) (u : Use) : staleTicks strap u ≤ 60 := by
  unfold staleTicks
  split
  · split <;> decide
  · split <;> decide
  · decide
  · decide

theorem Slot.WindowLegal.aged {sl : Slot} (h : sl.WindowLegal) (hs : sl.win.stale = false) {b : Bool}
    (hb : b = false → sl.win.fresh + 1 < 60) :
    ({ sl with win := { sl.win with fresh := sl.win.fresh + 1, stale := b } } : Slot).WindowLegal := by
  obtain ⟨hm, h1, h2, h3, h4, _, h6, h7, h8⟩ := h
  have := h6 hs
  exact ⟨hm, h1, h2, h3, h4, by simp only; omega, hb, h7, h8⟩

theorem State.tickSlot_kept (s : State) (p : SetIx) (w : Way) : TableKept s (s.tickSlot p w) := by
  unfold State.tickSlot
  split
  · exact .refl s
  · next sl hsl =>
    split
    · exact .refl s
    · next hst =>
      have hst : sl.win.stale = false := by simpa using hst
      split
      · simp only
        refine TableKept.trans (TableKept.trans ?_ (State.offer_kept _ _)) (State.tellStale_kept _ p _)
        refine TableKept.putSlot hsl rfl fun hw => ?_
        exact hw.aged hst nofun
      · next ht =>
        refine TableKept.putSlot hsl rfl fun hw => ?_
        have := staleTicks_le s.straps.stale sl.use
        have aged := hw.aged hst (b := false) fun _ => by omega
        rwa [← hst] at aged

theorem State.freshnessTick_kept (s : State) : TableKept s s.freshnessTick :=
  TableKept.trans (t := { s.reach s.freshAt with freshAt := s.freshAt + Config.freshPeriod })
    (.of_eq rfl rfl rfl)
    (TableKept.foldl (fun t p => (t.tickSlot_kept p .zero).trans (State.tickSlot_kept _ p .one)) allSets _)

end Sys2Proof.Machine

/-! Every step keeps the point table and the columns of its locked points legal (3.1, 4.1, 6.4). -/

namespace Sys2Proof.Machine

/-! ### The two parts of the invariant -/

/-- The point table's own part: each slot legal, a set's two points distinct, one meter for each stage. -/
def State.TableLegal (s : State) : Prop :=
  (∀ p w sl, s.slotAt p w = some sl → sl.Legal p w) ∧
  (∀ p sl sl', s.slotAt p .zero = some sl → s.slotAt p .one = some sl' → sl.point ≠ sl'.point) ∧
  ∀ st p w sl p' w' sl', s.slotAt p w = some sl → s.slotAt p' w' = some sl' →
    sl.use = .stage st → sl'.use = .stage st → p = p' ∧ w = w'

/-- The control block's part: a column without an owner is idle. -/
def State.ColumnsLegal (s : State) : Prop := ∀ p : SetIx, (s.points[p]).owner = none → s.control.Idle p

theorem State.pointsLegal_iff {s : State} : s.PointsLegal ↔ s.TableLegal ∧ s.ColumnsLegal :=
  ⟨fun ⟨ha, hb, hc, hd⟩ => ⟨⟨ha, hb, hc⟩, hd⟩, fun ⟨⟨ha, hb, hc⟩, hd⟩ => ⟨ha, hb, hc, hd⟩⟩

theorem Slot.legal_iff {sl : Slot} {p : SetIx} {w : Way} :
    sl.Legal p w ↔ setOf sl.point = p ∧ (sl.locked = true → w = .one ∧ sl.use.isRoaming = false) ∧
      sl.WindowLegal := Iff.rfl

theorem State.TableLegal.of_slots {s t : State} (h : s.TableLegal) (ht : ∀ p w, t.slotAt p w = s.slotAt p w) :
    t.TableLegal := by
  unfold State.TableLegal
  simp only [ht]
  exact h

theorem TableKept.origin {s t : State} (k : TableKept s t) {p : SetIx} {w : Way} {sl : Slot}
    (h : t.slotAt p w = some sl) : ∃ old, s.slotAt p w = some old ∧ sl.declared = old.declared := by
  have hd := k.declared p w
  rw [h] at hd
  obtain ⟨old, hold, he⟩ := Option.map_eq_some_iff.mp hd.symm
  exact ⟨old, hold, he.symm⟩

theorem State.TableLegal.kept {s t : State} (h : s.TableLegal) (k : TableKept s t) : t.TableLegal := by
  obtain ⟨ha, hb, hc⟩ := h
  refine ⟨fun p w sl hsl => ?_, fun p a b h0 h1 => ?_, fun st p w a q v b h0 h1 hu0 hu1 => ?_⟩
  · obtain ⟨old, hold, hd⟩ := k.origin hsl
    obtain ⟨hp, hu, hl⟩ := Slot.declared_eq_iff.mp hd
    obtain ⟨hset, hlock, _⟩ := Slot.legal_iff.mp (ha p w old hold)
    exact Slot.legal_iff.mpr ⟨hp ▸ hset, by rw [hl, hu]; exact hlock,
      k.windows p w sl hsl fun x hx => (Slot.legal_iff.mp (ha p w x hx)).2.2⟩
  · obtain ⟨a', ha', hda⟩ := k.origin h0
    obtain ⟨b', hb', hdb⟩ := k.origin h1
    rw [(Slot.declared_eq_iff.mp hda).1, (Slot.declared_eq_iff.mp hdb).1]
    exact hb p a' b' ha' hb'
  · obtain ⟨a', ha', hda⟩ := k.origin h0
    obtain ⟨b', hb', hdb⟩ := k.origin h1
    rw [(Slot.declared_eq_iff.mp hda).2.1] at hu0
    rw [(Slot.declared_eq_iff.mp hdb).2.1] at hu1
    exact hc st p w a' q v b' ha' hb' hu0 hu1

theorem State.PointsLegal.kept {s t : State} (h : s.PointsLegal) (k : TableKept s t) : t.PointsLegal := by
  obtain ⟨ht, hd⟩ := State.pointsLegal_iff.mp h
  refine State.pointsLegal_iff.mpr ⟨ht.kept k, fun p ho => ?_⟩
  have hs : (s.points[p]).owner = none := (k.owner_eq p).symm.trans ho
  exact k.columns p hs (hd p hs)

theorem State.PointsLegal.of_eq {s t : State} (h : s.PointsLegal) (hp : t.points = s.points)
    (hc : t.control = s.control) : t.PointsLegal := h.kept (.of_eq hp (by rw [hc]) (by rw [hc]))

/-! ### A set that is written anew -/

/-- Writes a whole set of the point table. -/
def State.setPoints (s : State) (p : SetIx) (ps : PointSet) : State := { s with points := s.points.set p ps }

theorem State.slotAt_setPoints (s : State) (p q : SetIx) (ps : PointSet) (v : Way) :
    (s.setPoints p ps).slotAt q v = if q = p then ps.get v else s.slotAt q v := by
  split
  · next h => subst h; simp [State.slotAt, State.setPoints]
  · next h =>
    have hval : p.val ≠ q.val := fun e => h (Fin.ext e.symm)
    simp [State.slotAt, State.setPoints, hval]

theorem State.points_setPoints_self (s : State) (p : SetIx) (ps : PointSet) :
    (s.setPoints p ps).points[p] = ps := by simp [State.setPoints]

theorem State.points_setPoints_of_ne (s : State) {p q : SetIx} (ps : PointSet) (h : q ≠ p) :
    (s.setPoints p ps).points[q] = s.points[q] := by
  have hval : p.val ≠ q.val := fun e => h (Fin.ext e.symm)
  simp [State.setPoints, hval]

/-- No slot outside set p is stage st's meter. -/
def State.NoMeterBeside (s : State) (p : SetIx) (st : Stage) : Prop :=
  ∀ q v sl, q ≠ p → s.slotAt q v = some sl → sl.use ≠ .stage st

/-- A set of two legal slots with distinct points and no second meter may replace a set of the table. -/
theorem State.TableLegal.setPoints {s : State} (h : s.TableLegal) {p : SetIx} {ps : PointSet}
    (hslot : ∀ w sl, ps.get w = some sl → sl.Legal p w)
    (hpair : ∀ a b, ps.way0 = some a → ps.way1 = some b →
      a.point ≠ b.point ∧ ∀ st, a.use = .stage st → b.use ≠ .stage st)
    (hmeter : ∀ w sl st, ps.get w = some sl → sl.use = .stage st → s.NoMeterBeside p st) :
    (s.setPoints p ps).TableLegal := by
  obtain ⟨ha, hb, hc⟩ := h
  refine ⟨fun q w sl hsl => ?_, fun q a b h0 h1 => ?_, fun st q w a q' w' b h0 h1 hu0 hu1 => ?_⟩
  · rw [State.slotAt_setPoints] at hsl
    split at hsl
    · next hq => exact hq ▸ hslot w sl hsl
    · exact ha q w sl hsl
  · rw [State.slotAt_setPoints] at h0 h1
    split at h0
    · next hq => rw [if_pos hq] at h1; exact (hpair a b h0 h1).1
    · next hq => rw [if_neg hq] at h1; exact hb q a b h0 h1
  · rw [State.slotAt_setPoints] at h0 h1
    split at h0
    · next hq =>
      split at h1
      · next hq' =>
        refine ⟨hq.trans hq'.symm, ?_⟩
        cases w <;> cases w'
        · rfl
        · exact absurd hu1 ((hpair a b h0 h1).2 st hu0)
        · exact absurd hu0 ((hpair b a h1 h0).2 st hu1)
        · rfl
      · next hq' => exact absurd hu1 (hmeter w a st h0 hu0 q' w' b hq' h1)
    · next hq =>
      split at h1
      · next hq' => exact absurd hu0 (hmeter w' b st h1 hu1 q w a hq h0)
      · exact hc st q w a q' w' b h0 h1 hu0 hu1

/-- A legal meter's stage has no other meter. -/
theorem State.TableLegal.noMeterBeside {s : State} (h : s.TableLegal) {p : SetIx} {w : Way} {sl : Slot}
    {st : Stage} (hsl : s.slotAt p w = some sl) (hu : sl.use = .stage st) : s.NoMeterBeside p st :=
  fun q v x hq hx hux => hq (h.2.2 st q v x p w sl hx hsl hux hu).1

/-- A point stands in one place of a legal table. -/
theorem State.TableLegal.place_eq {s : State} (h : s.TableLegal) {p q : SetIx} {w v : Way} {a b : Slot}
    (ha : s.slotAt p w = some a) (hb : s.slotAt q v = some b) (hab : a.point = b.point) : p = q ∧ w = v := by
  obtain ⟨hlegal, hpair, _⟩ := h
  have hpq : p = q := by rw [← (hlegal p w a ha).1, ← (hlegal q v b hb).1, hab]
  subst hpq
  refine ⟨rfl, ?_⟩
  cases w <;> cases v
  · rfl
  · exact absurd hab (hpair p a b ha hb)
  · exact absurd hab.symm (hpair p b a hb ha)
  · rfl

/-- A freed way leaves the table legal. -/
theorem State.TableLegal.putNone {s : State} (h : s.TableLegal) (p : SetIx) (w : Way) :
    (s.putSlot p w none).TableLegal := by
  have sub : ∀ q v sl, (s.putSlot p w none).slotAt q v = some sl → s.slotAt q v = some sl := by
    intro q v sl hsl
    rw [State.slotAt_putSlot] at hsl
    split at hsl
    · cases hsl
    · exact hsl
  obtain ⟨ha, hb, hc⟩ := h
  exact ⟨fun q v sl hsl => ha q v sl (sub _ _ _ hsl), fun q a b h0 h1 => hb q a b (sub _ _ _ h0) (sub _ _ _ h1),
    fun st q v a q' v' b h0 h1 => hc st q v a q' v' b (sub _ _ _ h0) (sub _ _ _ h1)⟩

theorem State.putSlot_eq_setPoints (s : State) (p : SetIx) (w : Way) (x : Option Slot) :
    s.putSlot p w x = s.setPoints p ((s.points[p]).put w x) := rfl

theorem Way.eq_other_of_ne {v w : Way} (h : v ≠ w) : v = w.other := by
  cases v with
  | zero => cases w with
    | zero => exact absurd rfl h
    | one => rfl
  | one => cases w with
    | zero => rfl
    | one => exact absurd rfl h

/-- A legal slot whose point does not stand in the other way, and whose stage has no other meter, may be
written. -/
theorem State.TableLegal.putSome {s : State} (h : s.TableLegal) {p : SetIx} {w : Way} {sl : Slot}
    (hl : sl.Legal p w)
    (hother : ∀ x, s.slotAt p w.other = some x →
      x.point ≠ sl.point ∧ ∀ st, sl.use = .stage st → x.use ≠ .stage st)
    (hmeter : ∀ st, sl.use = .stage st → s.NoMeterBeside p st) : (s.putSlot p w (some sl)).TableLegal := by
  have get : ∀ v x, ((s.points[p]).put w (some sl)).get v = some x →
      (v = w ∧ x = sl) ∨ (v = w.other ∧ s.slotAt p v = some x) := by
    intro v x hx
    by_cases hv : v = w
    · subst hv; rw [PointSet.get_put_self] at hx; cases hx; exact .inl ⟨rfl, rfl⟩
    · rw [PointSet.get_put_of_ne _ _ hv] at hx
      exact .inr ⟨Way.eq_other_of_ne hv, hx⟩
  rw [State.putSlot_eq_setPoints]
  refine h.setPoints (fun v x hx => ?_) (fun a b h0 h1 => ?_) fun v x st hx hu => ?_
  · rcases get v x hx with ⟨rfl, rfl⟩ | ⟨_, hx⟩
    · exact hl
    · exact h.1 p v x hx
  · rcases get .zero a h0 with ⟨hw, rfl⟩ | ⟨hw, ha⟩ <;> rcases get .one b h1 with ⟨hw', rfl⟩ | ⟨hw', hb⟩
    · rw [← hw] at hw'; cases hw'
    · obtain ⟨hp, hu⟩ := hother b (hw' ▸ hb)
      exact ⟨hp.symm, hu⟩
    · obtain ⟨hp, hu⟩ := hother a (hw ▸ ha)
      exact ⟨hp, fun st h0 h1 => hu st h1 h0⟩
    · rw [← hw] at hw'; cases hw'
  · rcases get v x hx with ⟨_, rfl⟩ | ⟨_, hx⟩
    · exact hmeter st hu
    · exact h.noMeterBeside hx hu

/-! ### Eviction and filling -/

theorem State.evict_slotAt {s t : State} {p : SetIx} {w : Way} {cause : CloseCause}
    (h : s.evict p w cause = some t) (q : SetIx) (v : Way) : t.slotAt q v = (s.putSlot p w none).slotAt q v := by
  unfold State.evict at h
  split at h
  · next hn => cases h; rw [← hn, State.putSlot_slotAt]
  · split at h
    · split at h
      · cases h; rfl
      · cases h
    · cases h; rfl

theorem State.TableLegal.evict {s t : State} (h : s.TableLegal) {p : SetIx} {w : Way} {cause : CloseCause}
    (he : s.evict p w cause = some t) : t.TableLegal := (h.putNone p w).of_slots (State.evict_slotAt he)

theorem State.evict_control {s t : State} {p : SetIx} {w : Way} {cause : CloseCause}
    (h : s.evict p w cause = some t) : t.control = s.control := by
  obtain ⟨_, _, _, rfl⟩ := State.evict_frame h
  rfl

theorem Slot.new_legal {pt : PointId} {use : Use} {lock : Bool} {w : Way}
    (hl : lock = true → w = .one ∧ use.isRoaming = false) : (Slot.new pt use lock).Legal (setOf pt) w :=
  ⟨rfl, hl, Nat.zero_le _, WindowRecord.legal_empty⟩

/-- The filling of a way by a point that its set does not hold. -/
theorem State.TableLegal.fill {s : State} (h : s.TableLegal) {pt : PointId} {w : Way} {use : Use} {lock : Bool}
    (habsent : ∀ v sl, s.slotAt (setOf pt) v = some sl → sl.point ≠ pt)
    (hl : lock = true → w = .one ∧ use.isRoaming = false)
    (hmeter : ∀ st q v sl, use = .stage st → s.slotAt q v = some sl → sl.use ≠ .stage st) :
    (s.fill w pt use lock).TableLegal :=
  h.putSome (Slot.new_legal hl) (fun x hx => ⟨habsent _ x hx, fun st hu => hmeter st _ _ x hu hx⟩)
    fun st hu q v x _ hx => hmeter st q v x hu hx

theorem State.owner_of_slotAt {s t : State} {p : SetIx} (h : t.slotAt p .one = s.slotAt p .one) :
    (t.points[p]).owner = (s.points[p]).owner := PointSet.owner_congr (by
  simp only [State.slotAt, PointSet.get] at h
  rw [h])

/-! ### A table that a reading changes -/

/-- The victim way never holds a column's owner (R49). -/
theorem PointSet.usable_of_victim {ps : PointSet} {w : Way} (h : ps.victim = some w) : ps.usable w = true := by
  unfold PointSet.victim at h
  simp only at h
  split at h
  · next hu => cases h; exact hu
  · split at h
    · next hu => cases h; exact hu
    · cases h

theorem PointSet.owner_eq_none_of_victim_one {ps : PointSet} (h : ps.victim = some .one) : ps.owner = none := by
  have hu := PointSet.usable_of_victim h
  unfold PointSet.owner
  cases h1 : ps.way1 with
  | none => rfl
  | some sl =>
    simp only [PointSet.usable, PointSet.get, h1, Bool.and_eq_true, Bool.not_eq_true'] at hu
    simp [hu.1]

theorem State.slotAt_fill (s : State) (pt : PointId) (w : Way) (use : Use) (lock : Bool) (q : SetIx) (v : Way) :
    (s.fill w pt use lock).slotAt q v =
      if q = setOf pt ∧ v = w then some (Slot.new pt use lock) else s.slotAt q v :=
  State.slotAt_putSlot ..

theorem State.PointsLegal.seat {s : State} (h : s.PointsLegal) (r : Reading) : (s.seat r).1.PointsLegal := by
  obtain ⟨htable, hcolumns⟩ := State.pointsLegal_iff.mp h
  unfold State.seat
  simp only
  split
  · exact h
  · next hfind =>
    split
    · exact h.of_eq rfl rfl
    · next w hw =>
      split
      · exact h.of_eq rfl rfl
      · next u he =>
        have absent : ∀ v sl, u.slotAt (setOf r.point) v = some sl → sl.point ≠ r.point := by
          intro v sl hsl
          rw [State.evict_slotAt he, State.slotAt_putSlot] at hsl
          split at hsl
          · cases hsl
          · exact PointSet.find_none hfind hsl
        have filled : (u.fill w r.point (.roaming r.hint) false).TableLegal :=
          (htable.evict he).fill absent (fun hl => nomatch hl) fun _ _ _ _ hu => nomatch hu
        refine State.pointsLegal_iff.mpr ⟨filled, fun q hq => ?_⟩
        have stands : (s.points[q]).owner = none := by
          by_cases hone : q = setOf r.point ∧ Way.one = w
          · obtain ⟨rfl, rfl⟩ := hone
            exact PointSet.owner_eq_none_of_victim_one hw
          · rw [← State.owner_of_slotAt (s := s) (t := u.fill w r.point (.roaming r.hint) false), hq]
            rw [State.slotAt_fill, if_neg hone, State.evict_slotAt he, State.slotAt_putSlot, if_neg hone]
        exact (hcolumns q stands).of_eq (by rw [← State.evict_control he]; rfl)
          (by rw [← State.evict_control he]; rfl)

theorem State.PointsLegal.processReading {s : State} (h : s.PointsLegal) (r : Reading) :
    (s.processReading r).PointsLegal := by
  have seated := h.seat r
  unfold State.processReading
  split
  · next he => rw [he] at seated; exact State.PointsLegal.kept seated (State.windowWork_kept _ _ _ r)
  · next he => rw [he] at seated; exact seated

theorem State.PointsLegal.takeReading {s : State} (h : s.PointsLegal) : s.takeReading.PointsLegal := by
  unfold State.takeReading
  split
  · exact h
  · next r q _ =>
    have rest : ({ s with readings := q } : State).PointsLegal := h.of_eq rfl rfl
    exact rest.processReading r

/-! ### A table that a request changes -/

/-- The tables of the control block with a column cleared, before targets are told (R104). -/
def Control.cleared (c : Control) (p : SetIx) : Control :=
  { (c.mapColumn p fun _ _ => 0).setFreeze p .active with
    coupling := Vector.ofFn fun st : Stage => (c.coupling[st]).set p none }

theorem State.clearColumn_eq (s : State) (p : SetIx) : s.clearColumn p = s.controlEvent (s.control.cleared p) :=
  rfl

theorem Control.cleared_freeze (c : Control) (p q : SetIx) :
    (c.cleared p).freeze[q] = if q = p then .active else c.freeze[q] := by
  by_cases h : q = p
  · subst h; simp [Control.cleared, Control.setFreeze]
  · have hval : p.val ≠ q.val := fun e => h (Fin.ext e.symm)
    simp [Control.cleared, Control.setFreeze, Control.mapColumn, hval, h]

theorem Control.cleared_couplingAt (c : Control) (st : Stage) (p q : SetIx) :
    (c.cleared p).couplingAt st q = if q = p then none else c.couplingAt st q := by
  by_cases h : q = p
  · subst h; simp [Control.cleared, Control.couplingAt]
  · have hval : p.val ≠ q.val := fun e => h (Fin.ext e.symm)
    simp [Control.cleared, Control.couplingAt, hval, h]

theorem State.clearColumn_idle (s : State) (p q : SetIx) (h : q = p ∨ s.control.Idle q) :
    (s.clearColumn p).control.Idle q := by
  rw [State.clearColumn_eq]
  refine Control.Idle.of_eq (c := s.control.cleared p) ?_ (State.controlEvent_freeze _ _)
    (State.controlEvent_coupling _ _)
  unfold Control.Idle
  simp only [Control.cleared_freeze, Control.cleared_couplingAt]
  by_cases hq : q = p
  · simp [hq]
  · simp only [if_neg hq]
    exact h.resolve_left hq

/-- After a request the table tells its changes: a column that lost its owner is cleared. -/
theorem State.ColumnsLegal.tableChanged {before s : State} (h : before.ColumnsLegal)
    (hc : s.control = before.control) {p : SetIx} (hp : ∀ q, q ≠ p → s.points[q] = before.points[q]) :
    (s.tableChanged before p).ColumnsLegal := by
  intro q hq
  rw [State.tableChanged_points] at hq
  unfold State.tableChanged
  simp only [State.metersChanged_control]
  split
  · next hown =>
    rw [hc]
    refine h q ?_
    by_cases hqp : q = p
    · subst hqp
      rcases hown with hown | hown
      · rw [hown]; exact hq
      · exact hown
    · rw [← hp q hqp]; exact hq
  · refine s.clearColumn_idle p q ?_
    by_cases hqp : q = p
    · exact .inl hqp
    · rw [hc]
      exact .inr (h q (by rw [← hp q hqp]; exact hq))

theorem State.PointsLegal.tableChanged {before s : State} (h : before.PointsLegal) (ht : s.TableLegal)
    (hc : s.control = before.control) {p : SetIx} (hp : ∀ q, q ≠ p → s.points[q] = before.points[q]) :
    (s.tableChanged before p).PointsLegal :=
  State.pointsLegal_iff.mpr ⟨ht.of_slots (State.slotAt_congr (State.tableChanged_points ..)),
    (State.pointsLegal_iff.mp h).2.tableChanged hc hp⟩

theorem State.evict_points_of_ne {s t : State} {p q : SetIx} {w : Way} {cause : CloseCause}
    (h : s.evict p w cause = some t) (hq : q ≠ p) : t.points[q] = s.points[q] := by
  unfold State.evict at h
  split at h
  · cases h; rfl
  · split at h
    · split at h
      · cases h; exact State.points_putSlot_of_ne _ w none hq
      · cases h
    · cases h; exact State.points_putSlot_of_ne s w none hq

/-- A stage that is not taken has no meter but the point itself (R45). -/
theorem State.stageTaken_eq_false_iff {s : State} {pt : PointId} {use : Use} :
    s.stageTaken pt use = false ↔ ∀ st sl, use = .stage st → s.meterSlot st = some sl → sl.point = pt := by
  cases use with
  | stage st =>
    cases hm : s.meterSlot st with
    | none =>
      refine ⟨fun _ st' sl he hs => ?_, fun _ => by simp [State.stageTaken, hm]⟩
      cases he
      rw [hm] at hs
      cases hs
    | some m =>
      simp only [State.stageTaken, hm, bne_eq_false_iff_eq]
      refine ⟨fun hp st' sl he hs => ?_, fun h => h st m rfl hm⟩
      cases he
      rw [hm] at hs
      cases hs
      exact hp
  | _ => simp [State.stageTaken]

theorem State.TableLegal.meter_point {s : State} (h : s.TableLegal) {pt : PointId} {use : Use}
    (htaken : s.stageTaken pt use = false) {st : Stage} (hu : use = .stage st) {q : SetIx} {v : Way} {sl : Slot}
    (hsl : s.slotAt q v = some sl) (hst : sl.use = .stage st) : sl.point = pt := by
  obtain ⟨m, hm⟩ := Option.isSome_iff_exists.mp
    (State.hasMeter_iff.mpr ⟨sl, State.mem_slots.mpr ⟨q, v, hsl⟩, hst⟩)
  obtain ⟨hmem, hmu⟩ := State.meterSlot_some hm
  obtain ⟨q', v', hq'⟩ := State.mem_slots.mp hmem
  obtain ⟨rfl, rfl⟩ := h.2.2 st q v sl q' v' m hsl hq' hst hmu
  rw [hsl] at hq'
  cases hq'
  exact State.stageTaken_eq_false_iff.mp htaken st sl hu hm

theorem State.PointsLegal.placePoint {s : State} (h : s.PointsLegal) {pt : PointId} {use : Use} {lock : Bool}
    (hfind : (s.points[setOf pt]).find pt = none) (htaken : s.stageTaken pt use = false)
    (hroam : lock = true → use.isRoaming = false) : (s.placePoint pt use lock).2.PointsLegal := by
  obtain ⟨htable, _⟩ := State.pointsLegal_iff.mp h
  unfold State.placePoint
  simp only
  split
  · exact h
  · next w hw =>
    split
    · exact h
    · next u he =>
      have left : ∀ q v sl, u.slotAt q v = some sl → s.slotAt q v = some sl := by
        intro q v sl hsl
        rw [State.evict_slotAt he, State.slotAt_putSlot] at hsl
        split at hsl
        · cases hsl
        · exact hsl
      have absent : ∀ v sl, u.slotAt (setOf pt) v = some sl → sl.point ≠ pt := fun v sl hsl =>
        PointSet.find_none hfind (left _ v sl hsl)
      have filled : (u.fill w pt use lock).TableLegal := by
        refine (htable.evict he).fill absent (fun hl => ⟨?_, hroam hl⟩) fun st q v sl hu hsl hst => ?_
        · simpa [PointSet.wayFor, hl] using hw.symm
        · have hp := htable.meter_point htaken hu (left q v sl hsl) hst
          have hq : setOf pt = q := hp ▸ (htable.1 q v sl (left q v sl hsl)).1
          subst hq
          exact absent v sl hsl hp
      have touched : ((u.fill w pt use lock).touch (setOf pt) w).TableLegal :=
        filled.of_slots fun q v => State.slotAt_touch ..
      refine h.tableChanged touched (State.evict_control (t := u) he) fun q hq => ?_
      have hval : (setOf pt).val ≠ q.val := fun e => hq (Fin.ext e.symm)
      rw [← State.evict_points_of_ne he hq]
      simp [State.fill, hval]

theorem Slot.Legal.redeclared {sl : Slot} {p : SetIx} {w v : Way} (h : sl.Legal p w) {use : Use} {lock : Bool}
    (hl : lock = true → v = .one ∧ use.isRoaming = false) :
    ({ sl with use := use, locked := lock } : Slot).Legal p v := ⟨h.1, hl, h.2.2⟩

/-- A point is redeclared where it stands, or changes ways with the other point of its set. -/
theorem PointSet.redeclare_cases {ps : PointSet} {w : Way} {sl : Slot} (h : ps.get w = some sl) (use : Use)
    (lock : Bool) :
    (ps.redeclare w use lock).1 =
      (((ps.put (ps.redeclare w use lock).2.1 (some { sl with use := use, locked := lock })).put
        (ps.redeclare w use lock).2.1.other
          (if w = (ps.redeclare w use lock).2.1 then ps.get w.other
          else ps.get (ps.redeclare w use lock).2.1)).touch (ps.redeclare w use lock).2.1) ∧
    (lock = true → (ps.redeclare w use lock).2.1 = .one) ∧
    (w ≠ (ps.redeclare w use lock).2.1 → w = .zero ∧ lock = true) := by
  cases w <;> cases lock <;> simp_all [PointSet.redeclare, PointSet.get, PointSet.put, PointSet.touch, Way.other]

theorem PointSet.lockedByOther_eq_false_iff {ps : PointSet} {pt : PointId} :
    ps.lockedByOther pt = false ↔ ∀ sl, ps.way1 = some sl → sl.locked = true → sl.point = pt := by
  unfold PointSet.lockedByOther
  cases ps.way1 with
  | none => simp
  | some sl => cases h : sl.locked <;> simp [h]

theorem State.TableLegal.redeclare {s : State} (h : s.TableLegal) {pt : PointId} {use : Use} {lock : Bool}
    {w : Way} (hfind : (s.points[setOf pt]).find pt = some w) (htaken : s.stageTaken pt use = false)
    (hlocked : lock = true → (s.points[setOf pt]).lockedByOther pt = false)
    (hroam : lock = true → use.isRoaming = false) :
    (s.setPoints (setOf pt) ((s.points[setOf pt]).redeclare w use lock).1).TableLegal := by
  obtain ⟨sl, hsl, hpt⟩ := PointSet.find_some hfind
  have hlegal : sl.Legal (setOf pt) w := h.1 _ w sl hsl
  -- every slot that holds the declared stage's meter is the point's own
  have meters : ∀ st q v x, use = .stage st → s.slotAt q v = some x → x.use = .stage st →
      setOf pt = q ∧ w = v := fun st q v x hu hx hst =>
    h.place_eq hsl hx (hpt.trans (h.meter_point htaken hu hx hst).symm)
  have changed : ∀ v, (lock = true → v = .one ∧ use.isRoaming = false) →
      ({ sl with use := use, locked := lock } : Slot).Legal (setOf pt) v := fun v hv => hlegal.redeclared hv
  have beside : ∀ st, use = .stage st → s.NoMeterBeside (setOf pt) st := fun st hu q v x hq hx hst =>
    hq (meters st q v x hu hx hst).1.symm
  obtain ⟨hset, hone, hmoved⟩ := PointSet.redeclare_cases hsl use lock
  generalize ((s.points[setOf pt]).redeclare w use lock).2.1 = there at *
  -- the slot that ends beside the point
  have other : ∀ x, (if w = there then (s.points[setOf pt]).get w.other else (s.points[setOf pt]).get there) =
      some x → ∃ v, v ≠ w ∧ s.slotAt (setOf pt) v = some x ∧ (v = there.other ∨ x.locked = false) := by
    intro x hx
    split at hx
    · next hw => subst hw; exact ⟨w.other, Way.other_ne w, hx, .inl rfl⟩
    · next hw =>
      obtain ⟨rfl, rfl⟩ := hmoved hw
      have hthere := hone rfl
      subst hthere
      refine ⟨.one, by decide, hx, .inr ?_⟩
      cases hxl : x.locked with
      | false => rfl
      | true =>
        have := PointSet.lockedByOther_eq_false_iff.mp (hlocked rfl) x hx hxl
        exact absurd (h.place_eq hsl hx (hpt.trans this.symm)).2 (by decide)
  have get : ∀ v x, ((s.points[setOf pt]).redeclare w use lock).1.get v = some x →
      (v = there ∧ x = { sl with use := use, locked := lock }) ∨
      (v = there.other ∧ (if w = there then (s.points[setOf pt]).get w.other
        else (s.points[setOf pt]).get there) = some x) := by
    intro v x hx
    rw [hset, PointSet.get_touch] at hx
    by_cases hv : v = there.other
    · subst hv; rw [PointSet.get_put_self] at hx; exact .inr ⟨rfl, hx⟩
    · have hv' : v = there := (Way.eq_other_of_ne hv).trans (Way.other_other there)
      subst hv'
      rw [PointSet.get_put_of_ne _ _ hv, PointSet.get_put_self] at hx
      cases hx
      exact .inl ⟨rfl, rfl⟩
  have pair : ∀ x, (if w = there then (s.points[setOf pt]).get w.other else (s.points[setOf pt]).get there) =
      some x → x.point ≠ sl.point ∧ ∀ st, use = .stage st → x.use ≠ .stage st := by
    intro x hx
    obtain ⟨v, hv, hsx, _⟩ := other x hx
    exact ⟨fun e => hv (h.place_eq hsx hsl e).2, fun st hu hst => hv (meters st _ v x hu hsx hst).2.symm⟩
  refine h.setPoints (fun v x hx => ?_) (fun a b h0 h1 => ?_) fun v x st hx hu => ?_
  · rcases get v x hx with ⟨rfl, rfl⟩ | ⟨rfl, hbeside⟩
    · exact changed _ fun hl => ⟨hone hl, hroam hl⟩
    · obtain ⟨v, _, hsx, hplace⟩ := other x hbeside
      obtain ⟨hp, hl, hw⟩ := h.1 _ v x hsx
      refine ⟨hp, fun hlx => ?_, hw⟩
      rcases hplace with rfl | hun
      · exact hl hlx
      · rw [hun] at hlx; cases hlx
  · rcases get .zero a h0 with ⟨hw, rfl⟩ | ⟨hw, ha⟩ <;> rcases get .one b h1 with ⟨hw', rfl⟩ | ⟨hw', hb⟩
    · rw [← hw] at hw'; cases hw'
    · obtain ⟨hp, hu⟩ := pair b hb
      exact ⟨hp.symm, hu⟩
    · obtain ⟨hp, hu⟩ := pair a ha
      exact ⟨hp, fun st h0 h1 => hu st h1 h0⟩
    · rw [← hw] at hw'; cases hw'
  · rcases get v x hx with ⟨_, rfl⟩ | ⟨_, hx⟩
    · exact beside st hu
    · obtain ⟨v, _, hsx, _⟩ := other x hx
      exact h.noMeterBeside hsx hu

theorem State.PointsLegal.declare {s : State} (h : s.PointsLegal) (pt : PointId) (use : Use) (lock : Bool)
    (hroam : lock = true → use.isRoaming = false) : (s.declare pt use lock).2.PointsLegal := by
  obtain ⟨htable, _⟩ := State.pointsLegal_iff.mp h
  unfold State.declare
  simp only
  split
  · exact h
  · next htaken =>
    have htaken : s.stageTaken pt use = false := by simpa using htaken
    split
    · exact h
    · next hlock =>
      have hlock : lock = true → (s.points[setOf pt]).lockedByOther pt = false := fun hl => by simpa [hl] using hlock
      split
      · next w hfind =>
        exact h.tableChanged (s := s.setPoints (setOf pt) ((s.points[setOf pt]).redeclare w use lock).1)
          (htable.redeclare hfind htaken hlock hroam) rfl
          fun q hq => State.points_setPoints_of_ne s _ hq
      · next hfind => exact h.placePoint hfind htaken hroam

section Owners

variable {s : State} (h : s.PointsLegal)
include h

theorem ownDeclare_pointsLegal (id r pl l : Nat) : (ownDeclare id r pl l s).2.PointsLegal := by
  unfold ownDeclare
  split
  · split
    · exact h
    · next hr => exact h.declare _ _ _ fun hl => by simpa [hl] using hr
  · exact h
  · exact h
  · exact h

theorem ownRelease_pointsLegal (id : Nat) : (ownRelease id s).2.PointsLegal := by
  obtain ⟨htable, _⟩ := State.pointsLegal_iff.mp h
  unfold ownRelease
  split
  · exact h
  · simp only
    split
    · exact h
    · split
      · exact h
      · next he => exact h.tableChanged (htable.evict he) (State.evict_control he) fun q => State.evict_points_of_ne he

theorem ownSetCoupling_pointsLegal (st p a : Nat) : (ownSetCoupling st p a s).2.PointsLegal := by
  obtain ⟨htable, hcolumns⟩ := State.pointsLegal_iff.mp h
  unfold ownSetCoupling
  split
  · next st p _ _ =>
    split
    · exact h
    · next ho =>
      dsimp only
      refine State.pointsLegal_iff.mpr ⟨htable.of_slots (State.slotAt_congr (by simp)), fun q hq => ?_⟩
      rw [State.couple_points] at hq
      have hval : p.val ≠ q.val := fun e => by rw [Fin.ext e, hq] at ho; cases ho
      obtain ⟨hf, hc⟩ := hcolumns q hq
      refine ⟨?_, fun st' => ?_⟩
      · rw [State.couple, State.controlEvent_freeze]; exact hf
      · have := hc st'
        rw [State.couple]
        simp only [Control.couplingAt, State.controlEvent_coupling]
        by_cases hst : st.val = st'.val
        · simpa [Control.setCoupling, Control.setNeed, Control.couplingAt, Vector.getElem_set, hst, hval] using this
        · simpa [Control.setCoupling, Control.setNeed, Control.couplingAt, Vector.getElem_set, hst] using this
  · exact h
  · exact h

end Owners

theorem State.PointsLegal.schedEvent {s : State} (h : s.PointsLegal) (f : Ledger → Ledger) :
    (s.schedEvent f).PointsLegal := h.of_eq (by simp [State.schedEvent]) (by simp [State.schedEvent])

theorem ownRestart_frame (x : Nat) (s : State) : ∃ c, (ownRestart x s).2 = { s with console := c } := by
  unfold ownRestart
  split
  · exact ⟨_, rfl⟩
  · split <;> exact ⟨_, rfl⟩

theorem ownSetTime_frame (t : Nat) (s : State) : ∃ x, (ownSetTime t s).2 = { s with sched := x } := by
  unfold ownSetTime
  simp only
  split <;> exact ⟨_, rfl⟩

theorem ownReadCounters_frame (c : Nat) (s : State) : ∃ r, (ownReadCounters c s).2 = { s with reports := r } := by
  unfold ownReadCounters
  split
  · exact ⟨_, rfl⟩
  · simp only
    split <;> exact ⟨_, rfl⟩

theorem ownSetRates_frame (st a r hd : Nat) (s : State) :
    ∃ e, (ownSetRates st a r hd s).2 = { s with engines := e } := by
  unfold ownSetRates
  split <;> exact ⟨_, rfl⟩

theorem ownStart_cases (s : State) : (ownStart s).2 = s ∨ (ownStart s).2 = s.takeControl := by
  unfold ownStart
  simp only
  split
  · dsimp only
    exact .inr rfl
  · exact .inl rfl

theorem ownSetDark_cases (e t d : Nat) (s : State) :
    (ownSetDark e t d s).2 = s ∨ ∃ en, (ownSetDark e t d s).2 = s.setDark en (clamp 300 900 t) (clamp 60 3600 d) := by
  unfold ownSetDark
  split
  · exact .inl rfl
  · dsimp only
    exact .inr ⟨_, rfl⟩

theorem ownPost_cases (i : Nat) (f : PostedFields) (s : State) :
    (ownPost i f s).2 = s ∨ ∃ g, (ownPost i f s).2 = s.schedEvent g := by
  unfold ownPost
  split
  · exact .inl rfl
  · split
    · exact .inl rfl
    · dsimp only
      exact .inr ⟨_, rfl⟩

theorem ownRecall_cases (i : Nat) (s : State) :
    (ownRecall i s).2 = s ∨ ∃ g, (ownRecall i s).2 = s.schedEvent g := by
  unfold ownRecall
  split
  · exact .inl rfl
  · split
    · exact .inl rfl
    · exact .inl rfl
    · exact .inl rfl
    · dsimp only
      exact .inr ⟨_, rfl⟩
    · dsimp only
      exact .inr ⟨_, rfl⟩

/-- Every owner of a request keeps the table and the columns legal. -/
theorem State.PointsLegal.ownerReply {s : State} (h : s.PointsLegal) (k : RequestKind) (seq : Byte)
    (body : List Byte) (hl : body.length = k.length) : (ownerReply k seq body s).2.PointsLegal := by
  refine ownerReply_induct (P := fun r => r.2.PointsLegal) hl h ?time h ?start ?restart
    (ownDeclare_pointsLegal h) (ownRelease_pointsLegal h) (fun id => (ownReadPoint_state id s).symm ▸ h)
    (ownSetCoupling_pointsLegal h) ?post (fun i => (ownReadPeriod_state i s).symm ▸ h) ?withdraw
    (fun f => h.schedEvent _) ?rates (fun st => (ownReadStage_state st s).symm ▸ h) ?dark ?counters ?history ?stop
  case time =>
    intro t
    obtain ⟨x, hx⟩ := ownSetTime_frame t s
    rw [hx]; exact h.of_eq rfl rfl
  case start =>
    rcases ownStart_cases s with hx | hx <;> rw [hx]
    · exact h
    · exact h.of_eq (by simp) (by simp)
  case restart =>
    intro x
    obtain ⟨c, hc⟩ := ownRestart_frame x s
    rw [hc]; exact h.of_eq rfl rfl
  case post =>
    intro i f
    rcases ownPost_cases i f s with hx | ⟨g, hx⟩ <;> rw [hx]
    · exact h
    · exact h.schedEvent g
  case withdraw =>
    intro i
    rcases ownRecall_cases i s with hx | ⟨g, hx⟩ <;> rw [hx]
    · exact h
    · exact h.schedEvent g
  case rates =>
    intro st a r hd
    obtain ⟨e, he⟩ := ownSetRates_frame st a r hd s
    rw [he]; exact h.of_eq rfl rfl
  case dark =>
    intro e t d
    rcases ownSetDark_cases e t d s with hx | ⟨en, hx⟩ <;> rw [hx]
    · exact h
    · exact h.of_eq (by simp) (by simp)
  case counters =>
    intro c
    obtain ⟨r, hr⟩ := ownReadCounters_frame c s
    rw [hr]; exact h.of_eq rfl rfl
  case history =>
    intro id m b n
    obtain ⟨x, hx⟩ := ownExport_frame seq id m b n s
    rw [hx]; exact h.of_eq rfl rfl
  case stop =>
    obtain ⟨x, hx⟩ := ownAbort_frame s
    rw [hx]; exact h.of_eq rfl rfl

/-! ### Restarts and the other commands -/

theorem State.pointsLegal_reset : State.reset.PointsLegal := by
  have free : ∀ p w, State.reset.slotAt p w = none := by
    intro p w
    cases w <;> simp [State.slotAt, State.reset, PointSet.get]
  refine State.pointsLegal_iff.mpr ⟨⟨?_, ?_, ?_⟩, fun p _ => ⟨?_, fun st => ?_⟩⟩
  · intro p w sl hsl; rw [free] at hsl; cases hsl
  · intro p a b h0; rw [free] at h0; cases h0
  · intro st p w a q v b h0; rw [free] at h0; cases h0
  · simp [State.reset]
  · simp [State.reset, Control.couplingAt]

theorem startState_pointsLegal (pins : Straps) (now freshAt : Nat) (steps : Stage → Nat) (l : List Instr) :
    (startState pins now freshAt steps l).PointsLegal := State.pointsLegal_reset.of_eq rfl rfl

theorem State.fullRestart_pointsLegal (s : State) (pins : Straps) : (s.fullRestart pins).PointsLegal := by
  have started := startState_pointsLegal pins s.now s.freshAt (fun st => (s.engine st).stepAt) s.pending
  unfold State.fullRestart
  simp only
  split
  · exact started.of_eq rfl rfl
  · exact started

theorem State.enforcementRestart_slotAt (s : State) (p : SetIx) (w : Way) :
    s.enforcementRestart.slotAt p w = (s.slotAt p w).map Slot.enforce := by
  have hp : s.enforcementRestart.points = Vector.ofFn fun p : SetIx => (s.points[p]).enforce := by
    simp [State.enforcementRestart]
  cases w <;> simp [State.slotAt, hp, PointSet.enforce, PointSet.get]

theorem State.enforcementRestart_kept (s : State) : TableKept s s.enforcementRestart := by
  have slots := s.enforcementRestart_slotAt
  refine ⟨fun p w => ?_, fun p w sl hsl hw => ?_, fun p _ ⟨_, hc⟩ => ⟨?_, fun st => ?_⟩⟩
  · rw [slots, Option.map_map]; rfl
  · rw [slots] at hsl
    obtain ⟨old, hold, rfl⟩ := Option.map_eq_some_iff.mp hsl
    exact ⟨(hw old hold).1, WindowRecord.legal_empty⟩
  · simp [State.enforcementRestart, Control.enforce, State.reset]
  · have := hc st
    simpa [State.enforcementRestart, Control.enforce, Control.couplingAt] using this

theorem State.PointsLegal.frameSent {s : State} (h : s.PointsLegal) (pins : Straps) :
    (s.frameSent pins).PointsLegal := by
  unfold State.frameSent
  split
  · exact h
  · simp only
    split
    · exact h.of_eq rfl rfl
    · exact h.of_eq rfl rfl
    · exact h.of_eq rfl rfl
    · split
      · exact h.of_eq rfl rfl
      · exact State.fullRestart_pointsLegal _ pins
      · have freed : ∀ c, ({ s with console := c } : State).PointsLegal := fun c => h.of_eq rfl rfl
        exact (freed _).kept (State.enforcementRestart_kept _)

theorem State.PointsLegal.freezeExpiry {s : State} (h : s.PointsLegal) (p : SetIx) :
    (s.freezeExpiry p).PointsLegal := by
  obtain ⟨htable, hcolumns⟩ := State.pointsLegal_iff.mp h
  unfold State.freezeExpiry
  split
  · next t hfrozen =>
    refine State.pointsLegal_iff.mpr ⟨htable.of_slots (State.slotAt_congr (by simp)), fun q hq => ?_⟩
    simp only [State.controlEvent_points, State.reach_points] at hq
    obtain ⟨hf, hc⟩ := hcolumns q hq
    have hval : p.val ≠ q.val := fun e => by rw [Fin.ext e, hf] at hfrozen; cases hfrozen
    refine ⟨?_, fun st => ?_⟩
    · simp only [State.controlEvent_freeze]
      simpa [Control.mapColumn, Control.setFreeze, hval] using hf
    · simp only [Control.couplingAt, State.controlEvent_coupling]
      exact hc st
  · exact h
  · exact h

theorem State.aliveExpiry_frame (s : State) (i : Input) :
    ∃ n m r, s.aliveExpiry i = { s with now := n, meter := m, reports := r } := by
  unfold State.aliveExpiry
  split
  · exact ⟨_, _, _, rfl⟩
  · simp only
    split
    · exact ⟨_, _, _, rfl⟩
    · split
      · split <;> exact ⟨_, _, _, rfl⟩
      · split <;> exact ⟨_, _, _, rfl⟩

theorem State.returnExpiry_frame (s : State) :
    ∃ n m r, s.returnExpiry = { s with now := n, meter := m, reports := r } := by
  unfold State.returnExpiry
  split <;> exact ⟨_, _, _, rfl⟩

theorem State.offerReading_frame (s : State) (r : Reading) :
    ∃ q rep, s.offerReading r = { s with readings := q, reports := rep } := by
  unfold State.offerReading
  simp only
  split
  · exact ⟨_, _, rfl⟩
  · split <;> exact ⟨_, _, rfl⟩

theorem State.startReturn_frame (s : State) (i : Input) (b : Bool) :
    ∃ m, s.startReturn i b = { s with meter := m } := by
  unfold State.startReturn
  split <;> exact ⟨_, rfl⟩

theorem State.validFrame_frame (s : State) (i : Input) (f : MeterFrame) :
    ∃ m q r, s.validFrame i f = { s with meter := m, readings := q, reports := r } := by
  have moved : ∃ m r, (if (s.restartAlive i).auto = true ∧ i ≠ (s.restartAlive i).meter.active ∧
      (s.restartAlive i).meter.isAlive (s.restartAlive i).meter.active = false
      then (s.restartAlive i).switchInput i .revival else s.restartAlive i) =
      { s with meter := m, reports := r } := by
    split <;> exact ⟨_, _, rfl⟩
  obtain ⟨m, r, hm⟩ := moved
  unfold State.validFrame
  simp only
  rw [hm]
  obtain ⟨m', hm'⟩ := State.startReturn_frame { s with meter := m, reports := r } i (s.meter.isAlive i)
  rw [hm']
  split
  · obtain ⟨q, rep, hq⟩ := State.offerReading_frame { s with meter := m', reports := r } (convert f)
    exact ⟨_, _, _, hq⟩
  · exact ⟨_, _, _, rfl⟩

theorem State.meterBreak_frame (s : State) (i : Input) :
    ∃ m r, s.meterBreak i = { s with meter := m, reports := r } := by
  unfold State.meterBreak
  split <;> exact ⟨_, _, rfl⟩

theorem State.meterCharacter_frame (s : State) (i : Input) (c : Byte) (g : Bool) :
    ∃ m q r, s.meterCharacter i c g = { s with meter := m, readings := q, reports := r } := by
  unfold State.meterCharacter
  split
  · obtain ⟨m, r, h⟩ := s.meterBreak_frame i
    exact ⟨_, _, _, h⟩
  · split
    · split <;> exact ⟨_, _, _, rfl⟩
    · split
      · exact ⟨_, _, _, rfl⟩
      · unfold State.completeMeterFrame
        split
        · obtain ⟨m, q, r, h⟩ := (s.huntMeter i).validFrame_frame i _
          exact ⟨_, _, _, h⟩
        · exact ⟨_, _, _, rfl⟩

theorem State.meterGapExpiry_frame (s : State) (i : Input) :
    ∃ n m r, s.meterGapExpiry i = { s with now := n, meter := m, reports := r } := by
  unfold State.meterGapExpiry
  split <;> exact ⟨_, _, _, rfl⟩

/-- Every command keeps the table and the columns legal. -/
theorem State.PointsLegal.exec {s : State} (h : s.PointsLegal) (c : Instr) :
    ∃ t, exec c s = .next t ∧ t.PointsLegal := by
  have hunt : s.huntConsole.PointsLegal := h.of_eq rfl rfl
  have console : ∀ (u : State) c, u.PointsLegal → ({ u with console := c } : State).PointsLegal :=
    fun u c hu => hu.of_eq rfl rfl
  refine exec_induct (P := State.PointsLegal) c (fun u hu => hu.of_eq (by simp) (by simp)) h
    (fun _ => h.of_eq rfl rfl) (fun _ _ => State.pointsLegal_reset.of_eq rfl rfl) ?character ?frame
    (fun _ => h.of_eq rfl rfl) ?meterGap ?meterBreak ?alive ?returns h.takeReading (h.kept s.freshnessTick_kept)
    h.freezeExpiry ?clock (fun _ => h.of_eq rfl rfl) ?hold ?release ?refresh ?order ?dark
    (State.consoleCharacter_keeps console h hunt.ownerReply) hunt ?gap h.frameSent
    (State.requestFrame_keeps console h hunt.ownerReply)
  case character => intro i c g; obtain ⟨_, _, _, he⟩ := s.meterCharacter_frame i c g; rw [he]; exact h.of_eq rfl rfl
  case frame =>
    intro i f; obtain ⟨_, _, _, he⟩ := (s.huntMeter i).validFrame_frame i f; rw [he]; exact h.of_eq rfl rfl
  case meterGap => intro i; obtain ⟨_, _, _, he⟩ := s.meterGapExpiry_frame i; rw [he]; exact h.of_eq rfl rfl
  case meterBreak => intro i; obtain ⟨_, _, he⟩ := s.meterBreak_frame i; rw [he]; exact h.of_eq rfl rfl
  case alive => intro i; obtain ⟨_, _, _, he⟩ := s.aliveExpiry_frame i; rw [he]; exact h.of_eq rfl rfl
  case returns => obtain ⟨_, _, _, he⟩ := s.returnExpiry_frame; rw [he]; exact h.of_eq rfl rfl
  case clock =>
    unfold State.clockTick
    split
    · exact h
    · have reached : ∀ t, (s.reach t).PointsLegal := fun t => h.of_eq rfl rfl
      exact (reached _).schedEvent _
  case hold => intro st; unfold State.holdExpiry; split <;> exact h.of_eq rfl rfl
  case release => intro st; unfold State.releaseTick; split <;> exact h.of_eq rfl rfl
  case refresh => intro st; unfold State.refreshExpiry; split <;> exact h.of_eq rfl rfl
  case order => unfold State.orderSent; split <;> exact h.of_eq rfl rfl
  case dark => unfold State.darkExpiry; split <;> exact h.of_eq rfl rfl
  case gap => unfold State.consoleGapExpiry; split <;> exact h.of_eq rfl rfl

/-- Settles O59: every command keeps the table and the columns legal, so every step does. -/
theorem stepsKeepThePointTableLegal : Obligations.StepsKeepThePointTableLegal :=
  fun _ _ h => step_keeps (P := State.PointsLegal) (fun _ _ h => h) (fun _ _ h => h)
    (fun _ h => h.of_eq (by simp) (by simp)) (fun c _ h => h.exec c) h

end Sys2Proof.Machine

/-! The gain engines (7.2, 7.3): told targets, permissions, and the timers, each by the engine's state. -/

namespace Sys2Proof.Machine

namespace Engine

variable {e : Engine} {now t : Nat}

/-! ### A told target (R124) -/

theorem tell_of_not_limiting (h : e.state.limiting = false) : e.tell now t = { e with target := t } := by
  unfold tell
  cases hs : e.state <;> simp_all [EngineState.limiting]

/-- The hold timer's setting after a restart (R126). -/
theorem restartHold_eq (e : Engine) (now : Nat) :
    e.restartHold now =
      { e with holdAt := if e.hold = 0 then none else some (now + e.hold * Config.second) } := rfl

/-- A rise above the reduction pulls, from every state of the limiting class. -/
theorem tell_rise (h : e.state.limiting = true) (hlt : e.applied < t) :
    e.tell now t = { e with
      target := t, state := .pulling
      holdAt := if e.hold = 0 then none else some (now + e.hold * Config.second)
      releaseAt := if e.state = .pulling then e.releaseAt else none } := by
  cases hs : e.state
  case pulling => simp [tell, hs, hlt, restartHold]
  case opened | holding | easing => simp [tell, hs, hlt, pull, restartHold]
  case withheld | fading | silenced => simp [hs, EngineState.limiting] at h

theorem tell_opened (h : e.state = .opened) (hle : t ≤ e.applied) : e.tell now t = { e with target := t } := by
  simp [tell, h, Nat.not_lt.mpr hle]

theorem tell_reached (h : e.state = .pulling ∨ e.state = .easing) (ht : t = e.applied) :
    e.tell now t = { e with target := t, state := if t = 0 then .opened else .holding, releaseAt := none } := by
  subst ht
  rcases h with h | h <;> simp [tell, h, reached]

theorem tell_holding_equal (h : e.state = .holding) (ht : t = e.applied) :
    e.tell now t = { e with target := t } := by
  subst ht
  simp [tell, h]

theorem tell_fall (h : e.state = .pulling ∨ e.state = .holding) (hlt : t < e.applied) :
    e.tell now t = ({ e with target := t } : Engine).toHolding now := by
  rcases h with h | h <;> simp [tell, h, hlt.not_gt, hlt.ne]

theorem toHolding_ease (hlt : e.target < e.applied) (hn : e.holdAt = none) :
    e.toHolding now = { e with state := .easing, releaseAt := some (now + Config.second) } := by
  simp [toHolding, hlt, hn, ease]

theorem toHolding_hold (h : ¬(e.target < e.applied ∧ e.holdAt = none)) :
    e.toHolding now = { e with state := .holding } := if_neg h

theorem tell_easing (h : e.state = .easing) (hlt : t < e.applied) : e.tell now t = { e with target := t } := by
  simp [tell, h, hlt.not_gt, hlt.ne]

/-- What a telling leaves alone. -/
theorem tell_keeps (e : Engine) (now t : Nat) :
    (e.tell now t).target = t ∧ (e.tell now t).applied = e.applied ∧ (e.tell now t).due = e.due ∧
      (e.tell now t).granted = e.granted ∧ (e.tell now t).fade = e.fade := by
  have fall : ∀ f : Engine, (f.toHolding now).target = f.target ∧ (f.toHolding now).applied = f.applied ∧
      (f.toHolding now).due = f.due ∧ (f.toHolding now).granted = f.granted ∧ (f.toHolding now).fade = f.fade := by
    intro f
    unfold toHolding
    split <;> exact ⟨rfl, rfl, rfl, rfl, rfl⟩
  cases hl : e.state.limiting
  · rw [tell_of_not_limiting hl]; exact ⟨rfl, rfl, rfl, rfl, rfl⟩
  · rcases lt_trichotomy e.applied t with hlt | heq | hgt
    · rw [tell_rise hl hlt]; exact ⟨rfl, rfl, rfl, rfl, rfl⟩
    · cases hs : e.state
      case opened => rw [tell_opened hs heq.ge]; exact ⟨rfl, rfl, rfl, rfl, rfl⟩
      case pulling => rw [tell_reached (.inl hs) heq.symm]; exact ⟨rfl, rfl, rfl, rfl, rfl⟩
      case holding => rw [tell_holding_equal hs heq.symm]; exact ⟨rfl, rfl, rfl, rfl, rfl⟩
      case easing => rw [tell_reached (.inr hs) heq.symm]; exact ⟨rfl, rfl, rfl, rfl, rfl⟩
      all_goals simp [hs, EngineState.limiting] at hl
    · cases hs : e.state
      case opened => rw [tell_opened hs hgt.le]; exact ⟨rfl, rfl, rfl, rfl, rfl⟩
      case pulling => rw [tell_fall (.inl hs) hgt]; exact fall _
      case holding => rw [tell_fall (.inr hs) hgt]; exact fall _
      case easing => rw [tell_easing hs hgt]; exact ⟨rfl, rfl, rfl, rfl, rfl⟩
      all_goals simp [hs, EngineState.limiting] at hl

theorem limiting_iff (x : EngineState) :
    x.limiting = true ↔ x = .opened ∨ x = .pulling ∨ x = .holding ∨ x = .easing := by
  cases x <;> simp [EngineState.limiting]

theorem not_limiting_iff (x : EngineState) :
    x.limiting = false ↔ x = .withheld ∨ x = .fading ∨ x = .silenced := by
  cases x <;> simp [EngineState.limiting]

end Engine

/-- Settles O35: a telling by the engine's state and by how the target compares with the reduction. -/
theorem toldTargetsActByState : Obligations.ToldTargetsActByState := by
  intro e now t u
  obtain ⟨h1, h2, h3, h4, h5⟩ := e.tell_keeps now t
  exact ⟨h1, h2, h3, h4, h5, fun h => Engine.tell_of_not_limiting ((Engine.not_limiting_iff _).mpr h),
    Engine.tell_opened, fun h => Engine.tell_rise ((Engine.limiting_iff _).mpr h), Engine.tell_reached,
    Engine.tell_holding_equal, fun h hlt =>
      ⟨fun hn => (Engine.tell_fall h hlt).trans (Engine.toHolding_ease hlt hn),
        fun hn => (Engine.tell_fall h hlt).trans (Engine.toHolding_hold fun hc => hn hc.2)⟩,
    Engine.tell_easing⟩

/-! ### Permissions (R128 to R131) -/

namespace Engine

theorem fadeStepFor_at_full (time : Nat) : fadeStepFor 300 time = 1 := by
  unfold fadeStepFor
  rcases Nat.eq_zero_or_pos time with rfl | h
  · rfl
  · rw [Nat.sub_self, Nat.div_eq_of_lt (by omega)]
    rfl

/-- R128's step as the statements write it. -/
theorem fadeStepFor_eq {a time : Nat} (h : 0 < time) :
    fadeStepFor a time = max 1 ((300 - a + (10 * time - 1)) / (10 * time)) := by
  unfold fadeStepFor
  rw [Nat.mul_comm time 10, Nat.add_sub_assoc (by omega)]

variable (e : Engine) (now : Nat) (st : Stage)

theorem startFade_below (h : e.applied ≠ 300) :
    e.startFade st =
      ({ e with
          state := .fading, fade := some { step := fadeStepFor e.applied e.fadeTime, time := e.fadeTime }
          holdAt := none, releaseAt := none },
        [.fadeStart st e.applied e.fadeTime (fadeStepFor e.applied e.fadeTime)]) := by
  simp [startFade, h]

theorem startFade_full (h : e.applied = 300) :
    e.startFade st =
      ({ e with state := .silenced, fade := none, holdAt := none, releaseAt := none, due := true },
        [.fadeStart st 300 e.fadeTime 1, .stageSilenced st e.fadeTime]) := by
  simp [startFade, h, silence, fadeStepFor_at_full]

variable (time : Nat)

theorem permit_denied_limiting (h : e.state.limiting = true) :
    e.permit now st false time = ({ e with granted := false, fadeTime := time } : Engine).startFade st := by
  unfold permit
  cases hs : e.state <;> simp_all [EngineState.limiting]

theorem permit_denied (h : e.state.limiting = false) :
    e.permit now st false time = ({ e with granted := false, fadeTime := time }, []) := by
  unfold permit
  cases hs : e.state <;> simp_all [EngineState.limiting]

theorem permit_granted (h : e.state.limiting = true ∨ e.state = .withheld) :
    e.permit now st true time = ({ e with granted := true, fadeTime := time }, []) := by
  unfold permit
  cases hs : e.state <;> simp_all [EngineState.limiting]

theorem permit_fading (h : e.state = .fading) :
    e.permit now st true time = (({ e with granted := true, fadeTime := time } : Engine).endFade now, []) := by
  simp [permit, h]

theorem permit_silenced (h : e.state = .silenced) :
    e.permit now st true time = (({ e with granted := true, fadeTime := time } : Engine).unmute now, []) := by
  simp [permit, h]

/-- HOLDING after a restart of the hold timer: EASING at once when the hold time is 0 (R126). -/
theorem toHolding_restartHold :
    (e.restartHold now).toHolding now =
      { e with
        holdAt := if e.hold = 0 then none else some (now + e.hold * Config.second)
        state := if e.target < e.applied ∧ e.hold = 0 then .easing else .holding
        releaseAt := if e.target < e.applied ∧ e.hold = 0 then some (now + Config.second) else e.releaseAt } := by
  by_cases h0 : e.hold = 0 <;> by_cases hlt : e.target < e.applied <;>
    simp [toHolding, restartHold, ease, h0, hlt]

theorem endFade_eq :
    e.endFade now = { e with
      fade := none, holdAt := if e.hold = 0 then none else some (now + e.hold * Config.second)
      state := if e.applied < e.target then .pulling
        else if e.applied = 0 then .opened
        else if e.target < e.applied ∧ e.hold = 0 then .easing else .holding
      releaseAt := if 0 < e.applied ∧ e.target < e.applied ∧ e.hold = 0 then some (now + Config.second)
        else e.releaseAt } := by
  unfold endFade
  by_cases hlt : e.applied < e.target
  · simp [restartHold, hlt, hlt.not_gt]
  · by_cases h0 : e.applied = 0
    · simp [restartHold, h0, show e.target = 0 by omega]
    · have hpos : 0 < e.applied := Nat.pos_of_ne_zero h0
      have held := ({ e with fade := none } : Engine).toHolding_restartHold now
      simpa [hlt, h0, hpos, restartHold] using held

end Engine

/-- Settles O38: a telling of a permission by the engine's state. -/
theorem permissionsStartAndEndFades : Obligations.PermissionsStartAndEndFades := by
  intro e now st time htime hle step denied granted hold ease
  have hstep : fadeStepFor e.applied time = step := Engine.fadeStepFor_eq (by omega)
  refine ⟨fun h hlt => ?_, fun h hfull => ?_, e.permit_denied now st time, e.permit_granted now st time,
    fun h => ?_, fun h => ?_⟩
  · have below := Engine.startFade_below { e with granted := false, fadeTime := time } st hlt.ne
    rw [← hstep]
    exact (e.permit_denied_limiting now st time h).trans below
  · exact (e.permit_denied_limiting now st time h).trans
      (Engine.startFade_full { e with granted := false, fadeTime := time } st hfull)
  · refine (e.permit_fading now st time h).trans ?_
    rw [Engine.endFade_eq]
  · refine (e.permit_silenced now st time h).trans ?_
    rw [Engine.unmute, Engine.toHolding_restartHold]

end Sys2Proof.Machine

/-! The timers, the orders and the echoes of the gain engines (7.2, 7.6, 7.7). -/

namespace Sys2Proof.Machine

namespace Engine

variable {e : Engine} {now : Nat} {st : Stage}

/-! ### The step timer (R125, R129) -/

theorem stepTick_resting (hp : e.state ≠ .pulling) (hf : e.state ≠ .fading) : e.stepTick st = (e, []) := by
  unfold stepTick
  cases hs : e.state <;> simp_all

theorem stepTick_pulling (hs : e.state = .pulling) (ha : 0 < e.attack) (ht : e.applied < e.target) :
    e.stepTick st =
      ({ e with
          applied := min e.target (e.applied + e.attack), due := true
          state := if e.target ≤ e.applied + e.attack then .holding else .pulling }, []) := by
  have hmin : e.applied + min e.attack (e.target - e.applied) = min e.target (e.applied + e.attack) := by omega
  have hmoved : (min e.target (e.applied + e.attack) != e.applied) = true := bne_iff_ne.mpr (by omega)
  simp only [stepTick, hs, hmin, hmoved, Bool.or_true, min_eq_left_iff]
  split <;> rfl

theorem stepTick_fading {f : Fade} (hs : e.state = .fading) (hf : e.fade = some f) (h0 : 0 < f.step)
    (hlt : e.applied + f.step < 300) :
    e.stepTick st = ({ e with applied := e.applied + f.step, due := true }, []) := by
  have hmin : min 300 (e.applied + f.step) = e.applied + f.step := Nat.min_eq_right hlt.le
  have hmoved : (e.applied + f.step != e.applied) = true := bne_iff_ne.mpr (by omega)
  simp only [stepTick, hs, hf, hmin, hmoved, Bool.or_true, if_neg hlt.ne]

theorem stepTick_silencing {f : Fade} (hs : e.state = .fading) (hf : e.fade = some f)
    (hge : 300 ≤ e.applied + f.step) :
    e.stepTick st =
      ({ e with applied := 300, due := true, state := .silenced, fade := none }, [.stageSilenced st f.time]) := by
  simp [stepTick, hs, hf, Nat.min_eq_left hge, silence]

/-- The phase of the step timer takes no part in a step. -/
theorem stepTick_stepAt (e : Engine) (st : Stage) (t : Nat) :
    ({ e with stepAt := t } : Engine).stepTick st =
      ({ (e.stepTick st).1 with stepAt := t }, (e.stepTick st).2) := by
  cases hs : e.state
  case pulling =>
    simp only [stepTick, hs]
    split <;> rfl
  case fading =>
    simp only [stepTick, hs]
    cases hf : e.fade <;> simp only [silence] <;> split <;> simp only [hf]
  all_goals simp only [stepTick, hs]

/-! ### The hold and release timers (R126, R127) -/

theorem holdExpiry_eases (h : e.state = .holding ∧ e.target < e.applied) :
    e.holdExpiry now =
      { e with holdAt := none, state := .easing, releaseAt := some (now + Config.second) } := by
  simp [holdExpiry, h.1, h.2, ease]

theorem holdExpiry_stops (h : ¬(e.state = .holding ∧ e.target < e.applied)) :
    e.holdExpiry now = { e with holdAt := none } := by
  unfold holdExpiry
  cases hs : e.state <;> simp_all

theorem releaseTick_lowers (hs : e.state = .easing) (h0 : 0 < e.release)
    (hlt : e.target + e.release < e.applied) :
    e.releaseTick now =
      { e with applied := e.applied - e.release, due := true, releaseAt := some (now + Config.second) } := by
  have hmin : e.applied - min e.release (e.applied - e.target) = e.applied - e.release := by omega
  have hmoved : (e.applied - e.release != e.applied) = true := bne_iff_ne.mpr (by omega)
  have hne : e.applied - e.release ≠ e.target := by omega
  simp only [releaseTick, hs, hmin, hmoved, Bool.or_true, if_neg hne]

theorem releaseTick_reaches (hs : e.state = .easing) (hlt : e.target < e.applied)
    (hge : e.applied ≤ e.target + e.release) :
    e.releaseTick now =
      { e with
        applied := e.target, due := true, releaseAt := none
        state := if e.target = 0 then .opened else .holding } := by
  have hmin : e.applied - min e.release (e.applied - e.target) = e.target := by omega
  have hmoved : (e.target != e.applied) = true := bne_iff_ne.mpr hlt.ne
  simp only [releaseTick, hs, hmin, hmoved, Bool.or_true, if_true, reached]

end Engine

/-! ### The timers in the state -/

theorem State.stepTick_eq (s : State) (st : Stage) :
    s.stepTick st = { s with
      now := max s.now (s.engine st).stepAt
      engines := s.engines.set st { ((s.engine st).stepTick st).1 with
        stepAt := (s.engine st).stepAt + Config.second / 10 }
      reports := ((s.engine st).stepTick st).2.foldl Reports.offer s.reports } := by
  have step := (s.engine st).stepTick_stepAt st ((s.engine st).stepAt + Config.stepPeriod)
  exact congrArg (fun r => (s.reach (s.engine st).stepAt).withEngine st r) step

/-- Settles O36: the step timer's tick by the engine's state. -/
theorem stepTickRaisesTheReduction : Obligations.StepTickRaisesTheReduction := by
  intro st s hrun e time after
  have ticked (x : Engine) (ns : List Notice) (h : e.stepTick st = (x, ns)) :
      exec (.stepTimerTick st) s = after x ns := by
    rw [exec_stepTimerTick, State.act_running hrun, State.stepTick_eq]
    simp only [show (s.engine st).stepTick st = (x, ns) from h]
    rfl
  refine ⟨fun hp hf => ticked _ _ (Engine.stepTick_resting hp hf),
    fun hs ha ht => ticked _ _ (Engine.stepTick_pulling hs ha ht), fun f hs hf h0 _ => ?_⟩
  split
  · next hlt => exact ticked _ _ (Engine.stepTick_fading hs hf h0 hlt)
  · next hge => exact ticked _ _ (Engine.stepTick_silencing hs hf (Nat.not_lt.mp hge))

/-- Settles O37: each timer's expiry, by whether it runs. -/
theorem engineTimersActAtTheirExpiry : Obligations.EngineTimersActAtTheirExpiry := by
  intro st s hrun e after
  have acts {c : Instr} {f : State → State} (hc : exec c s = s.act f) {t : State} (hf : f s = t) :
      exec c s = .next t.transmit := by rw [hc, State.act_running hrun, hf]
  refine ⟨fun hn => acts (exec_holdTimerExpiry st s)
      (by simp only [State.holdExpiry, show (s.engine st).holdAt = none from hn]),
    fun due hd => ?_,
    fun hn => acts (exec_releaseTimerTick st s)
      (by simp only [State.releaseTick, show (s.engine st).releaseAt = none from hn]),
    fun due hd hs h0 hlt => ?_,
    fun hn => acts (exec_refreshTimerExpiry st s)
      (by simp only [State.refreshExpiry, show (s.engine st).refreshAt = none from hn]),
    fun due hd => ?_⟩
  · have expired : s.holdExpiry st = (s.reach due).putEngine st (e.holdExpiry (max s.now due)) := by
      simp only [State.holdExpiry, show (s.engine st).holdAt = some due from hd]
      rfl
    rw [acts (exec_holdTimerExpiry st s) expired]
    split
    · next h => rw [Engine.holdExpiry_eases h]; rfl
    · next h => rw [Engine.holdExpiry_stops h]; rfl
  · have ticked : s.releaseTick st = (s.reach due).putEngine st (e.releaseTick due) := by
      simp only [State.releaseTick, show (s.engine st).releaseAt = some due from hd]
      rfl
    rw [acts (exec_releaseTimerTick st s) ticked]
    split
    · next h => rw [Engine.releaseTick_lowers hs h0 h]; rfl
    · next h => rw [Engine.releaseTick_reaches hs hlt (Nat.not_lt.mp h)]; rfl
  · have expired : s.refreshExpiry st =
        (s.reach due).putEngine st { e with refreshAt := none, due := true } := by
      simp only [State.refreshExpiry, show (s.engine st).refreshAt = some due from hd]
      rfl
    exact acts (exec_refreshTimerExpiry st s) expired

/-! ### Orders (R137) -/

theorem State.chooseOrder_busy {s : State} (h : s.link.line ≠ none) : s.chooseOrder = s := by
  unfold State.chooseOrder
  split
  · rfl
  · next hn => exact absurd hn h

theorem State.chooseOrder_nothingDue {s : State} (h : ∀ st, (s.engine st).due = false) : s.chooseOrder = s := by
  have hnone : (stageOrderFrom s.link.lastStage).find? (fun st => (s.engine st).due) = none :=
    List.find?_eq_none.mpr fun st _ => by simp [h st]
  unfold State.chooseOrder
  split
  · rfl
  · rw [hnone]

theorem State.chooseOrder_takes {s : State} {st : Stage} (hl : s.link.line = none)
    (hf : (stageOrderFrom s.link.lastStage).find? (fun st => (s.engine st).due) = some st) :
    s.chooseOrder =
      { s.putEngine st (s.engine st).chosen with
        link :=
          { line := some { st := st, seq := (s.engine st).chosen.seq, order := (s.engine st).chosen.order }
            lastStage := some st } } := by
  unfold State.chooseOrder
  simp only [hl, hf]

/-- The first stage the link looks at (R137). -/
def firstLooked : Option Stage → Stage
  | some l => l + 1
  | none => 0

/-- The stages in the order the link looks at them (R137). -/
theorem stageOrderFrom_eq (last : Option Stage) :
    stageOrderFrom last = (List.finRange 4).map (firstLooked last + ·) := by
  revert last
  decide

/-- The first stage with an order due, counted from the first stage looked at. -/
theorem find?_due {due : Stage → Bool} {first d : Stage} (hd : due (first + d) = true)
    (hmin : ∀ d' < d, due (first + d') = false) :
    ((List.finRange 4).map (first + ·)).find? due = some (first + d) := by
  rw [List.find?_map, Option.map_eq_some_iff]
  refine ⟨d, ?_, rfl⟩
  rw [List.find?_eq_some_iff_getElem]
  refine ⟨hd, d.val, by simp, by simp, fun j hj => ?_⟩
  simpa using hmin ⟨j, hj.trans d.isLt⟩ hj

theorem State.orderSent_idle {s : State} (h : s.link.line = none) : s.orderSent = s := by
  unfold State.orderSent
  rw [h]

theorem State.orderSent_line {s : State} {o : StageOrder} (h : s.link.line = some o) :
    s.orderSent = { s with
      link := { s.link with line := none }
      engines := s.engines.set o.st ((s.engine o.st).sent s.now s.standby.dark o.order) } := by
  unfold State.orderSent
  rw [h]
  rfl

theorem refreshTime_eq (dark : Bool) : refreshTime dark = (if dark then 10 else 1) * Config.second := by
  cases dark <;> rfl

/-- Settles O40: the choice of the idle link, and the end of its frame. -/
theorem ordersAreChosenInTurnAndLogged : Obligations.OrdersAreChosenInTurnAndLogged := by
  intro s
  refine ⟨State.chooseOrder_busy, fun _ => State.chooseOrder_nothingDue, fun hl first d hfirst hd hmin => ?_,
    fun hrun => ⟨fun hl => ?_, fun o ho => ?_⟩⟩
  · have hfind := find?_due (due := fun st => (s.engine st).due) hd hmin
    have looked : first = firstLooked s.link.lastStage := hfirst.trans (by cases s.link.lastStage <;> rfl)
    rw [looked, ← stageOrderFrom_eq, ← looked] at hfind
    exact State.chooseOrder_takes hl hfind
  · rw [exec_stageOrderSent, State.act_running hrun, State.orderSent_idle hl]
  · rw [exec_stageOrderSent, State.act_running hrun, State.orderSent_line ho, Engine.sent, refreshTime_eq]
    rfl

/-! ### Echoes (R138, R139) -/

/-- The range of some orders, as R138 describes it. -/
def EchoRange.Spans (r : EchoRange) (seen : List Order) : Prop :=
  (∀ o ∈ seen, r.least ≤ o.reduction ∧ o.reduction ≤ r.greatest) ∧
  (∃ o ∈ seen, o.reduction = r.least) ∧ (∃ o ∈ seen, o.reduction = r.greatest) ∧
  (r.unmuted = true ↔ ∃ o ∈ seen, o.mute = false) ∧ (r.muted = true ↔ ∃ o ∈ seen, o.mute = true)

theorem rangeOver_least (o : Order) (os : List Order) :
    ((o :: os).map (·.reduction)).min? = some (rangeOver o os).least := by
  rw [List.map_cons, List.min?_cons', List.foldl_map]
  rfl

theorem rangeOver_greatest (o : Order) (os : List Order) :
    ((o :: os).map (·.reduction)).max? = some (rangeOver o os).greatest := by
  rw [List.map_cons, List.max?_cons', List.foldl_map]
  rfl

theorem rangeOver_spans (o : Order) (os : List Order) : (rangeOver o os).Spans (o :: os) := by
  obtain ⟨hleast, hle⟩ := List.min?_eq_some_iff.mp (rangeOver_least o os)
  obtain ⟨hgreatest, hge⟩ := List.max?_eq_some_iff.mp (rangeOver_greatest o os)
  refine ⟨fun x hx => ⟨hle _ (List.mem_map_of_mem hx), hge _ (List.mem_map_of_mem hx)⟩,
    List.mem_map.mp hleast, List.mem_map.mp hgreatest, ?_, ?_⟩
  · simp [rangeOver]
  · simp [rangeOver]

theorem EchoRange.Spans.fits_iff {r : EchoRange} {seen : List Order} (h : r.Spans seen) (x : Echo) :
    r.fits x = true ↔ (∃ o ∈ seen, o.reduction ≤ x.reduction + 10) ∧
      (∃ o ∈ seen, x.reduction ≤ o.reduction + 10) ∧ ∃ o ∈ seen, o.mute = x.mute := by
  obtain ⟨hall, ⟨lo, hlo, hloeq⟩, ⟨hi, hhi, hhieq⟩, hunmuted, hmuted⟩ := h
  have hleast : r.least ≤ x.reduction + 10 ↔ ∃ o ∈ seen, o.reduction ≤ x.reduction + 10 :=
    ⟨fun h => ⟨lo, hlo, hloeq ▸ h⟩, fun ⟨o, ho, h⟩ => (hall o ho).1.trans h⟩
  have hgreatest : x.reduction ≤ r.greatest + 10 ↔ ∃ o ∈ seen, x.reduction ≤ o.reduction + 10 :=
    ⟨fun h => ⟨hi, hhi, hhieq ▸ h⟩, fun ⟨o, ho, h⟩ => h.trans (Nat.add_le_add_right (hall o ho).2 10)⟩
  have hmute : (if x.mute then r.muted else r.unmuted) = true ↔ ∃ o ∈ seen, o.mute = x.mute := by
    cases x.mute
    · exact hunmuted
    · exact hmuted
  rw [EchoRange.fits, Bool.and_eq_true, Bool.and_eq_true, decide_eq_true_iff, decide_eq_true_iff, hleast,
    hgreatest, hmute, and_assoc]

/-- The orders an echo is compared with, when there is a last order (R138). -/
def Engine.seen (e : Engine) (now : Nat) (last : Order) : List Order :=
  let recent := (e.log.filter fun l => now ≤ l.sentAt + 2 * Config.second).map (·.order)
  if recent = [] then [last] else recent

theorem Engine.range_spans {e : Engine} {last : Order} (now : Nat) (h : e.last = some last) :
    ∃ r, e.range now = some r ∧ r.Spans (e.seen now last) := by
  unfold Engine.seen
  cases hr : (e.log.filter fun l => now ≤ l.sentAt + 2 * Config.second).map (·.order) with
  | nil =>
    refine ⟨rangeOver last [], ?_, rangeOver_spans last []⟩
    simp only [Engine.range, h, show (recentOrders e.log now).map (·.order) = [] from hr]
  | cons o os =>
    refine ⟨rangeOver o os, ?_, rangeOver_spans o os⟩
    simp only [Engine.range, h, show (recentOrders e.log now).map (·.order) = o :: os from hr]

section
variable {e : Engine} {now : Nat} {st : Stage} {x : Echo} {last : Order} {r : EchoRange}

theorem Engine.echo_unsent (h : e.last = none) : e.echo now st x = ({ e with lastEcho := some x }, []) := by
  unfold Engine.echo
  simp only [h]

/-- The comparison of an echo once an order has been sent. -/
theorem Engine.echo_sent (hl : e.last = some last) (hr : e.range now = some r) :
    e.echo now st x =
      (let u : Engine := { e with lastEcho := some x }
      if r.fits x then
        ({ u with
            matches_ := min 5 (e.matches_ + 1), misses := 0
            notFollowing := if min 5 (e.matches_ + 1) = 5 then false else e.notFollowing }, [])
      else if min 5 (e.misses + 1) = 5 ∧ e.notFollowing = false then
        ({ u with misses := min 5 (e.misses + 1), matches_ := 0, notFollowing := true },
          [.stageNotFollowing st x r last])
      else ({ u with misses := min 5 (e.misses + 1), matches_ := 0 }, [])) := by
  have hr' : ({ e with lastEcho := some x } : Engine).range now = some r := hr
  simp only [Engine.echo, hr']
  simp only [hl]

theorem Engine.echo_fits (hl : e.last = some last) (hr : e.range now = some r) (hf : r.fits x = true) :
    e.echo now st x =
      ({ e with
          lastEcho := some x, matches_ := min 5 (e.matches_ + 1), misses := 0
          notFollowing := if 4 ≤ e.matches_ then false else e.notFollowing }, []) := by
  have hm : (min 5 (e.matches_ + 1) = 5) = (4 ≤ e.matches_) := propext (by omega)
  rw [Engine.echo_sent hl hr]
  simp only [hf, if_true, hm]

theorem Engine.echo_misses (hl : e.last = some last) (hr : e.range now = some r) (hf : ¬r.fits x = true)
    (h : e.misses < 4 ∨ e.notFollowing = true) :
    e.echo now st x =
      ({ e with lastEcho := some x, misses := min 5 (e.misses + 1), matches_ := 0 }, []) := by
  have hm : ¬(min 5 (e.misses + 1) = 5 ∧ e.notFollowing = false) := by
    rintro ⟨h5, hn⟩
    rcases h with h | h
    · omega
    · simp [hn] at h
  rw [Engine.echo_sent hl hr]
  simp only [if_neg hf, if_neg hm]

theorem Engine.echo_reports (hl : e.last = some last) (hr : e.range now = some r) (hf : ¬r.fits x = true)
    (h4 : 4 ≤ e.misses) (hn : e.notFollowing = false) :
    e.echo now st x =
      ({ e with lastEcho := some x, misses := 5, matches_ := 0, notFollowing := true },
        [.stageNotFollowing st x r last]) := by
  have hm : min 5 (e.misses + 1) = 5 := by omega
  rw [Engine.echo_sent hl hr]
  simp only [if_neg hf, hm, hn, and_self, if_true]

end

/-- Settles O41: the range, and an echo inside and outside it. -/
theorem echoStepsTheRuns : Obligations.EchoStepsTheRuns := by
  intro e now st x recent u
  refine ⟨fun hn => ⟨by simp only [Engine.range, hn], Engine.echo_unsent hn⟩, fun last hl => ?_⟩
  obtain ⟨r, hr, hspans⟩ := e.range_spans now hl
  refine ⟨⟨r, hr, hspans⟩, fun hfits => Engine.echo_fits hl hr ((hspans.fits_iff x).mpr hfits),
    fun hfits => Engine.echo_misses hl hr (mt (hspans.fits_iff x).mp hfits),
    fun hfits h4 hn => ⟨r, hr, Engine.echo_reports hl hr (mt (hspans.fits_iff x).mp hfits) h4 hn⟩⟩

end Sys2Proof.Machine

/-! Operations that run over the stages: permissions told, targets told, and START. -/

namespace Sys2Proof.Machine

/-! ### Engines told in stage order -/

theorem allStages_eq : allStages = List.finRange 4 := by decide

theorem allStages_nodup : allStages.Nodup := by decide

@[simp] theorem State.withEngine_self (s : State) (st : Stage) : s.withEngine st (s.engine st, []) = s := by
  simp [State.withEngine, State.putEngine, State.engine, State.offers]

theorem State.engine_withEngine_of_ne (s : State) {st st' : Stage} (r : Engine × List Notice) (h : st' ≠ st) :
    (s.withEngine st r).engine st' = s.engine st' := State.engine_putEngine_of_ne s r.1 h

@[simp] theorem State.engine_withEngine_self (s : State) (st : Stage) (r : Engine × List Notice) :
    (s.withEngine st r).engine st = r.1 := State.engine_putEngine_self s st r.1

/-- Each stage of a list has its engine changed by the engine itself and the time alone: what the stages
become, and the notices in the order of the list. -/
theorem State.foldl_withEngine (g : Stage → Nat → Engine → Engine × List Notice) {l : List Stage}
    (hl : l.Nodup) (s : State) :
    l.foldl (fun t st => t.withEngine st (g st t.now (t.engine st))) s =
      { s with
        engines := Vector.ofFn fun st : Stage =>
          if st ∈ l then (g st s.now (s.engine st)).1 else s.engine st
        reports := l.foldl (fun r st => (g st s.now (s.engine st)).2.foldl Reports.offer r) s.reports } := by
  induction l generalizing s with
  | nil =>
    have same : (Vector.ofFn fun st : Stage => s.engine st) = s.engines := by ext; simp [State.engine]
    simp [same]
  | cons a l ih =>
    obtain ⟨ha, hl⟩ := List.nodup_cons.mp hl
    have others {st : Stage} (hst : st ∈ l) :
        (s.withEngine a (g a s.now (s.engine a))).engine st = s.engine st :=
      s.engine_withEngine_of_ne _ fun h => ha (h ▸ hst)
    rw [List.foldl_cons, ih hl]
    congr 1
    · refine congrArg Vector.ofFn (funext fun st => ?_)
      by_cases hst : st ∈ l
      · simp only [hst, List.mem_cons, or_true, if_true, others hst]
        rfl
      · by_cases hsa : st = a
        · subst hsa
          simp [hst]
        · simp [hst, hsa, State.engine_withEngine_of_ne]
    · exact List.foldl_ext _ _ _ fun r st hst => by rw [others hst]; rfl

/-! ### The permission close (R84) -/

/-- The engine of a stage after the close of an event, with its notices. -/
def State.permitted (s : State) (before : Schedule) (st : Stage) : Engine × List Notice :=
  if s.sched.permission st = before.permission st then (s.engine st, [])
  else (s.engine st).permit s.now st (s.sched.permission st) (s.sched.fadeTime st)

theorem State.permissionClose_eq (s : State) (before : Schedule) :
    s.permissionClose before = { s with
      engines := Vector.ofFn fun st : Stage => (s.permitted before st).1
      reports := allStages.foldl (fun r st => (s.permitted before st).2.foldl Reports.offer r) s.reports } := by
  have told := s.foldl_withEngine (fun st now e =>
    if s.sched.permission st = before.permission st then (e, [])
    else e.permit now st (s.sched.permission st) (s.sched.fadeTime st)) allStages_nodup
  simp only [mem_allStages, if_true] at told
  refine Eq.trans (List.foldl_ext _ _ _ fun t st _ => ?_) told
  split
  · rw [State.withEngine_self]
  · rfl

theorem State.engine_permissionClose (s : State) (before : Schedule) (st : Stage) :
    (s.permissionClose before).engine st = (s.permitted before st).1 := by
  rw [State.permissionClose_eq]
  simp [State.engine]

/-! ### START (R132, R176) -/

/-- The engine of a stage after START, with its notices. -/
def State.released (s : State) (st : Stage) : Engine × List Notice :=
  if (s.engine st).state = .withheld then (s.engine st).takeControl s.now st else (s.engine st, [])

theorem State.takeControl_eq (s : State) :
    s.takeControl = { s with
      engines := Vector.ofFn fun st : Stage => (s.released st).1
      reports := allStages.foldl (fun r st => (s.released st).2.foldl Reports.offer r) s.reports } := by
  have told := s.foldl_withEngine (fun st now e =>
    if e.state = .withheld then e.takeControl now st else (e, [])) allStages_nodup
  simp only [mem_allStages, if_true] at told
  refine Eq.trans (List.foldl_ext _ _ _ fun t st _ => ?_) told
  split
  · rfl
  · rw [State.withEngine_self]

/-- A request whose owner's work does not look at the console receiver. -/
theorem State.request_owned {s u : State} (h : s.Open) (k : RequestKind) (seq : Byte) {body b : List Byte}
    (hl : body.length = k.length) (ho : ownerReply k seq body s.huntConsole = (b, u.huntConsole)) :
    s.act (·.requestFrame k.code seq body) = .next (u.replied k.code seq b).transmit :=
  State.request_open (t := u.huntConsole) h k seq hl ho rfl

theorem Engine.takeControl_denied {e : Engine} {now : Nat} {st : Stage} (h0 : e.applied = 0)
    (hhold : e.holdAt = none) (hrel : e.releaseAt = none) (hg : e.granted = false) :
    e.takeControl now st =
      ({ e with
          state := .fading, due := true, fade := some { step := fadeStepFor 0 e.fadeTime, time := e.fadeTime } },
        [.fadeStart st 0 e.fadeTime (fadeStepFor 0 e.fadeTime)]) := by
  have below := Engine.startFade_below { e with due := true } st (by simp [h0])
  rw [Engine.takeControl]
  refine (if_pos hg).trans (below.trans ?_)
  simp only [h0, hhold, hrel]

theorem Engine.takeControl_granted {e : Engine} {now : Nat} {st : Stage} (hg : e.granted = true) :
    e.takeControl now st = (({ e with state := .opened, due := true } : Engine).tell now e.target, []) := by
  simp [Engine.takeControl, hg]

theorem Engine.Legal.of_withheld {e : Engine} (h : e.Legal) (hs : e.state = .withheld) :
    e.applied = 0 ∧ e.holdAt = none ∧ e.releaseAt = none ∧ 10 ≤ e.fadeTime := by
  obtain ⟨hstate, -, -, hfade, -, -, -, -, -, -, -, -, -, -, hrel, -⟩ := h
  simp only [Engine.StateLegal, hs] at hstate
  refine ⟨hstate.1, hstate.2.2.2, ?_, hfade⟩
  cases hr : e.releaseAt with
  | none => rfl
  | some t => simp [hr, hs] at hrel

theorem ownStart_refused {s : State} (h : ∀ st, (s.engine st).state ≠ .withheld) : ownStart s = (stNotHeld, s) := by
  have none : (allStages.map fun st => (s.engine st).state == .withheld).any id = false := by simp [h]
  simp only [ownStart, none, Bool.false_eq_true, if_false]

theorem ownStart_released {s : State} (h : ∃ st, (s.engine st).state = .withheld) :
    ownStart s =
      (stOk ++ u8 (marks (allStages.map fun st => (s.engine st).state == .withheld)), s.takeControl) := by
  obtain ⟨st, hst⟩ := h
  have some : (allStages.map fun st => (s.engine st).state == .withheld).any id = true :=
    List.any_eq_true.mpr ⟨true, List.mem_map.mpr ⟨st, mem_allStages st, by simp [hst]⟩, rfl⟩
  simp only [ownStart, some, if_true]

theorem State.takeControl_huntConsole (s : State) : s.huntConsole.takeControl = s.takeControl.huntConsole := by
  rw [State.takeControl_eq, State.takeControl_eq]
  rfl

/-- Settles O39: START with and without a WITHHELD engine, and each engine after it. -/
theorem startReleasesWithheldEngines : Obligations.StartReleasesWithheldEngines := by
  intro s seq hopen hlegal held step
  have denied {st : Stage} (hw : held st) (hg : (s.engine st).granted = false) :
      s.released st =
        ({ s.engine st with
            state := .fading, due := true, fade := some { step := step st, time := (s.engine st).fadeTime } },
          [.fadeStart st 0 (s.engine st).fadeTime (step st)]) := by
    obtain ⟨h0, hhold, hrel, hfade⟩ := (hlegal st).of_withheld hw
    have hstep : fadeStepFor 0 (s.engine st).fadeTime = step st := Engine.fadeStepFor_eq (by omega)
    rw [State.released, if_pos hw, Engine.takeControl_denied h0 hhold hrel hg, hstep]
  have granted {st : Stage} (hw : held st) (hg : (s.engine st).granted = true) :
      s.released st =
        (({ s.engine st with state := .opened, due := true } : Engine).tell s.now (s.engine st).target, []) := by
    rw [State.released, if_pos hw, Engine.takeControl_granted hg]
  have stands {st : Stage} (hw : ¬held st) : s.released st = (s.engine st, []) := if_neg hw
  refine ⟨fun hnone => ?_, fun hsome => ⟨s.takeControl, ?_, ?_, fun st => ?_⟩⟩
  · exact State.request_read hopen .start seq rfl (ownStart_refused hnone)
  · have reply := ownStart_released (s := s.huntConsole) hsome
    rw [State.takeControl_huntConsole, marks_allStages] at reply
    simp only [beq_iff_eq] at reply
    exact State.request_owned hopen .start seq rfl ((ownerReply_start seq s.huntConsole).trans reply)
  · rw [State.takeControl_eq]
    congr 1
    refine List.foldl_ext _ _ _ fun r st _ => ?_
    by_cases hw : held st
    · cases hg : (s.engine st).granted
      · simp [denied hw hg, show (s.engine st).state = .withheld from hw]
      · simp [granted hw hg]
    · simp [stands hw, show ¬(s.engine st).state = .withheld from hw]
  · have after : s.takeControl.engine st = (s.released st).1 := by
      rw [State.takeControl_eq]
      simp [State.engine]
    rw [after]
    exact ⟨fun hw => by rw [stands hw], fun hw hg => by rw [denied hw hg], fun hw hg => by rw [granted hw hg]⟩

end Sys2Proof.Machine

/-! Targets (R102), the freeze timer (R114) and SET_COUPLING (R103). -/

namespace Sys2Proof.Machine

/-! ### The largest need of a row -/

theorem rowMax_eq_max? (row : Vector Nat 16) : (0 :: row.toList).max? = some (rowMax row) := List.max?_cons'

theorem le_rowMax (row : Vector Nat 16) (p : SetIx) : row[p] ≤ rowMax row :=
  (List.max?_eq_some_iff.mp (rowMax_eq_max? row)).2 _ (List.mem_cons_of_mem _ (by simp))

theorem exists_rowMax (row : Vector Nat 16) : ∃ p : SetIx, row[p] = rowMax row := by
  rcases List.mem_cons.mp (List.max?_eq_some_iff.mp (rowMax_eq_max? row)).1 with h0 | hmem
  · exact ⟨0, le_antisymm (le_rowMax row 0) (h0 ▸ Nat.zero_le _)⟩
  · obtain ⟨n, hn, hval⟩ := List.mem_iff_getElem.mp hmem
    exact ⟨⟨n, by simpa using hn⟩, by simpa using hval⟩

/-! ### Targets told -/

/-- A stage's engine after the targets have been recomputed (R102). -/
def State.retold (s : State) (st : Stage) : Engine :=
  if rowMax s.control.needs[st] = s.control.targets[st] then s.engine st
  else (s.engine st).tell s.now (rowMax s.control.needs[st])

theorem State.retargetStage_same {s : State} {st : Stage}
    (h : rowMax s.control.needs[st] = s.control.targets[st]) : s.retargetStage st = s := if_pos h

theorem State.retargetStage_changed {s : State} {st : Stage}
    (h : rowMax s.control.needs[st] ≠ s.control.targets[st]) :
    s.retargetStage st =
      ({ s with control := { s.control with
          targets := s.control.targets.set st (rowMax s.control.needs[st]) } }).tellTarget st
        (rowMax s.control.needs[st]) := if_neg h

@[simp] theorem State.retargetStage_now (s : State) (st : Stage) : (s.retargetStage st).now = s.now := by
  unfold State.retargetStage
  dsimp only
  split <;> rfl

@[simp] theorem State.retargetStage_needs (s : State) (st : Stage) :
    (s.retargetStage st).control.needs = s.control.needs := by
  unfold State.retargetStage
  dsimp only
  split <;> rfl

theorem State.retargetStage_target (s : State) (a st : Stage) :
    (s.retargetStage a).control.targets[st] =
      if st = a then rowMax s.control.needs[st] else s.control.targets[st] := by
  by_cases h : rowMax s.control.needs[a] = s.control.targets[a]
  · rw [State.retargetStage_same h]
    split
    · next hst => rw [hst, h]
    · rfl
  · rw [State.retargetStage_changed h]
    simp only [State.tellTarget, State.putEngine_control, Fin.getElem_fin, Vector.getElem_set]
    split
    · next hst =>
      obtain rfl : st = a := Fin.ext hst.symm
      rw [if_pos rfl]
    · next hst => rw [if_neg fun hsa : st = a => hst (hsa ▸ rfl)]

theorem State.retargetStage_engine (s : State) (a st : Stage) :
    (s.retargetStage a).engine st = if st = a then s.retold st else s.engine st := by
  by_cases h : rowMax s.control.needs[a] = s.control.targets[a]
  · rw [State.retargetStage_same h]
    split
    · next hst => rw [State.retold, hst, if_pos h]
    · rfl
  · rw [State.retargetStage_changed h, State.tellTarget, State.engine_putEngine]
    split
    · next hst => rw [State.retold, hst, if_neg h]; rfl
    · rfl

theorem State.retold_retargetStage (s : State) {a st : Stage} (h : st ≠ a) :
    (s.retargetStage a).retold st = s.retold st := by
  unfold State.retold
  rw [State.retargetStage_target, State.retargetStage_engine, if_neg h, if_neg h, State.retargetStage_needs,
    State.retargetStage_now]

theorem State.foldl_retargetStage {l : List Stage} (hl : l.Nodup) (s : State) (st : Stage) :
    (l.foldl State.retargetStage s).control.targets[st] =
        (if st ∈ l then rowMax s.control.needs[st] else s.control.targets[st]) ∧
      (l.foldl State.retargetStage s).engine st = if st ∈ l then s.retold st else s.engine st := by
  induction l generalizing s with
  | nil => simp
  | cons a l ih =>
    obtain ⟨ha, hl⟩ := List.nodup_cons.mp hl
    obtain ⟨htarget, hengine⟩ := ih hl (s.retargetStage a)
    rw [List.foldl_cons, htarget, hengine, State.retargetStage_target, State.retargetStage_engine,
      State.retargetStage_needs]
    by_cases hsa : st = a
    · simp [hsa, ha]
    · simp [hsa, s.retold_retargetStage hsa]

theorem State.retarget_target (s : State) (st : Stage) :
    s.retarget.control.targets[st] = rowMax s.control.needs[st] := by
  rw [State.retarget, (State.foldl_retargetStage allStages_nodup s st).1, if_pos (mem_allStages st)]

theorem State.engine_retarget (s : State) (st : Stage) : s.retarget.engine st = s.retold st := by
  rw [State.retarget, (State.foldl_retargetStage allStages_nodup s st).2, if_pos (mem_allStages st)]

/-- The whole state after the targets have been recomputed. -/
theorem State.retarget_eq (s : State) :
    s.retarget = { s with
      control := { s.control with targets := Vector.ofFn fun st : Stage => rowMax s.control.needs[st] }
      engines := Vector.ofFn s.retold } := by
  obtain ⟨targets, engines, h⟩ := s.retarget_frame
  have htargets : targets = Vector.ofFn fun st : Stage => rowMax s.control.needs[st] := by
    ext st hst
    simpa [h] using s.retarget_target ⟨st, hst⟩
  have hengines : engines = Vector.ofFn s.retold := by
    ext st hst
    simpa [h, State.engine] using s.engine_retarget ⟨st, hst⟩
  rw [h, htargets, hengines]

/-- Settles O32: targets are row maxima, and an engine is told exactly when its target changed. -/
theorem retargetTellsChangedTargets : Obligations.RetargetTellsChangedTargets := by
  intro s
  refine ⟨?_, fun st => ?_⟩
  · obtain ⟨targets, engines, h⟩ := s.retarget_frame
    rw [h]
  · rw [State.retarget_target, State.engine_retarget]
    exact ⟨le_rowMax _, exists_rowMax _, rfl⟩

/-! ### The freeze timer (R114) -/

theorem State.freezeExpiry_stopped {s : State} {p : SetIx}
    (h : s.control.freeze[p] = .active ∨ s.control.freeze[p] = .precaution) : s.freezeExpiry p = s := by
  unfold State.freezeExpiry
  rcases h with h | h <;> simp only [h]

/-- The tables after a freeze timer's expiry. -/
def Control.precaution (c : Control) (p : SetIx) : Control :=
  (c.setFreeze p .precaution).mapColumn p fun st n => if c.coupled st p then max n 30 else n

theorem State.freezeExpiry_frozen {s : State} {p : SetIx} {due : Nat} (h : s.control.freeze[p] = .frozen due) :
    s.freezeExpiry p = State.retarget { s with now := max s.now due, control := s.control.precaution p } := by
  unfold State.freezeExpiry
  simp only [h]
  rfl

/-- Settles O33: the expiry of a freeze timer that runs, and of one that does not. -/
theorem freezeExpiryTakesPrecaution : Obligations.FreezeExpiryTakesPrecaution := by
  intro p s hrun
  refine ⟨fun h => ?_, fun due h => ⟨s.control.precaution p, ?_, rfl, fun st q => ?_⟩⟩
  · rw [exec_freezeTimerExpiry, State.act_running hrun, State.freezeExpiry_stopped h]
  · rw [exec_freezeTimerExpiry, State.act_running hrun, State.freezeExpiry_frozen h]
  · rw [Control.precaution, Control.needAt_mapColumn]
    by_cases hq : q = p
    · subst hq
      simp only [if_true, true_and]
      rfl
    · simp only [hq, false_and, if_false]
      rfl

/-! ### SET_COUPLING (R103) -/

theorem stageOf_eq_none {n : Nat} (h : 4 ≤ n) : stageOf n = none := dif_neg (Nat.not_lt.mpr h)

theorem stageOf_val (st : Stage) : stageOf st.val = some st := dif_pos st.isLt

theorem setIxOf_eq_none {n : Nat} (h : 16 ≤ n) : setIxOf n = none := dif_neg (Nat.not_lt.mpr h)

theorem setIxOf_val (p : SetIx) : setIxOf p.val = some p := dif_pos p.isLt

theorem ownSetCoupling_outOfRange {stage set : Nat} (h : 4 ≤ stage ∨ 16 ≤ set) (atten : Nat) (s : State) :
    ownSetCoupling stage set atten s = (stBadField, s) := by
  unfold ownSetCoupling
  rcases h with h | h
  · rw [stageOf_eq_none h]
  · rw [setIxOf_eq_none h]
    cases stageOf stage <;> rfl

theorem ownSetCoupling_unowned (st : Stage) {p : SetIx} {s : State} (h : (s.points[p]).owner = none) (atten : Nat) :
    ownSetCoupling st.val p.val atten s = (stBadField, s) := by
  simp only [ownSetCoupling, stageOf_val, setIxOf_val, h]

theorem State.retarget_huntConsole (s : State) : s.huntConsole.retarget = s.retarget.huntConsole := by
  rw [State.retarget_eq, State.retarget_eq]
  rfl

/-- The need beside a written entry, as R103 says it. -/
theorem needAfterCoupling_eq (old new : Option Nat) (freeze : Freeze) (need : Nat) :
    needAfterCoupling old new freeze need =
      if new = none ∧ old ≠ none then 0
      else if new ≠ none ∧ old = none ∧ freeze = .precaution then max need 30 else need := by
  cases old <;> cases new <;> cases freeze <;> simp [needAfterCoupling]

section
variable (s : State) (st : Stage) (p : SetIx) (v : Option Nat)

/-- The need that a written coupling leaves. -/
def State.coupledNeed : Nat :=
  if v = none ∧ s.control.couplingAt st p ≠ none then 0
  else if v ≠ none ∧ s.control.couplingAt st p = none ∧ s.control.freeze[p] = .precaution then
    max (s.control.needAt st p) 30
  else s.control.needAt st p

theorem State.couple_eq :
    s.couple st p v = State.retarget { s with control := { s.control with
      coupling := s.control.coupling.set st ((s.control.coupling[st]).set p v)
      needs := s.control.needs.set st ((s.control.needs[st]).set p (s.coupledNeed st p v)) } } := by
  rw [State.couple, State.controlEvent, needAfterCoupling_eq]
  rfl

theorem State.couple_huntConsole : s.huntConsole.couple st p v = (s.couple st p v).huntConsole := by
  rw [State.couple_eq, State.couple_eq, ← State.retarget_huntConsole]
  rfl

@[simp] theorem State.couple_couplingAt : (s.couple st p v).control.couplingAt st p = v := by
  simp [State.couple_eq, Control.couplingAt]

@[simp] theorem State.couple_needAt : (s.couple st p v).control.needAt st p = s.coupledNeed st p v := by
  simp [State.couple_eq, Control.needAt]

@[simp] theorem State.couple_freeze : (s.couple st p v).control.freeze = s.control.freeze := by
  simp [State.couple_eq]

end

theorem ownSetCoupling_owned (st : Stage) {p : SetIx} {s : State} (h : (s.points[p]).owner.isSome = true)
    (atten : Nat) :
    ownSetCoupling st.val p.val atten s =
      (stOk ++ u8 st.val ++ u8 p.val ++ opt16 (attenuation atten) ++
          u16 (s.coupledNeed st p (attenuation atten)) ++
          u16 (s.couple st p (attenuation atten)).control.targets[st] ++ u8 (s.control.freeze[p]).code,
        s.couple st p (attenuation atten)) := by
  obtain ⟨owner, howner⟩ := Option.isSome_iff_exists.mp h
  simp only [ownSetCoupling, stageOf_val, setIxOf_val, howner, State.couple_couplingAt, State.couple_needAt,
    State.couple_freeze]

/-- Settles O31: SET_COUPLING on a bad field, on a column without an owner, and on an owned column. -/
theorem setCouplingWritesOneEntry : Obligations.SetCouplingWritesOneEntry := by
  intro s seq st p a0 a1 hopen couple
  have replies {b : List Byte} {u : State}
      (h : ownSetCoupling st.toNat p.toNat (le16 a0 a1) s.huntConsole = (b, u.huntConsole)) :
      couple = .next (u.replied 0x13 seq b).transmit :=
    State.request_owned hopen .setCoupling seq rfl ((ownerReply_setCoupling seq st p a0 a1 s.huntConsole).trans h)
  refine ⟨fun h => replies (ownSetCoupling_outOfRange h _ _), fun stage set hst hp => ?_⟩
  rw [hst, hp] at replies
  refine ⟨fun h => replies (ownSetCoupling_unowned stage (s := s.huntConsole) h _), fun h => ?_⟩
  have owned := ownSetCoupling_owned stage (s := s.huntConsole) h (le16 a0 a1)
  rw [State.couple_huntConsole] at owned
  intro entry need u
  have hentry : attenuation (le16 a0 a1) = entry := rfl
  rw [hentry] at owned
  clear hentry
  clear_value entry
  have coupled : s.couple stage set entry = u := State.couple_eq s stage set entry
  have hneed : s.huntConsole.coupledNeed stage set entry = need := rfl
  rw [hneed, coupled] at owned
  clear hneed coupled
  clear_value need u
  exact replies owned

end Sys2Proof.Machine

/-! The limit schedule: retirement and its phases (5.4), and the walk (5.3). -/

namespace Sys2Proof.Machine

theorem allSlots_eq : allSlots = List.finRange 32 := by decide

theorem allSlots_nodup : allSlots.Nodup := allSlots_eq ▸ List.nodup_finRange 32

/-! ### Fields of the schedule -/

section
variable (x : Schedule) (i : SlotIx) (p : Period)

@[simp] theorem Schedule.period_setPeriod_self : (x.setPeriod i p).period i = p := by
  simp [Schedule.period, Schedule.setPeriod]

theorem Schedule.period_setPeriod_of_ne {j : SlotIx} (h : j ≠ i) : (x.setPeriod i p).period j = x.period j := by
  have hval : i.val ≠ j.val := fun hij => h (Fin.ext hij.symm)
  simp [Schedule.period, Schedule.setPeriod, hval]

theorem Schedule.period_setPeriod (j : SlotIx) :
    (x.setPeriod i p).period j = if j = i then p else x.period j := by
  split
  · next h => rw [h, x.period_setPeriod_self]
  · next h => exact x.period_setPeriod_of_ne i p h

@[simp] theorem Schedule.period_drop (j : SlotIx) : (x.drop i).period j = x.period j := rfl

@[simp] theorem Schedule.zoneHolder_drop (z : Zone) :
    (x.drop i).zoneHolder[z] = if x.zoneHolder[z] = some i then none else x.zoneHolder[z] := by
  simp [Schedule.drop]

@[simp] theorem Schedule.stageHolder_drop (st : Stage) :
    (x.drop i).stageHolder[st] = if x.stageHolder[st] = some i then none else x.stageHolder[st] := by
  simp [Schedule.drop]

end

theorem Schedule.clockValue_eq (x : Schedule) : x.clockValue = if x.clockSet then some x.clock else none := rfl

/-! ### Retirement (R93) -/

theorem PeriodOutcome.keepsFigures_iff (o : PeriodOutcome) : o.keepsFigures = true ↔ o = .ended ∨ o = .cutShort := by
  cases o <;> simp [PeriodOutcome.keepsFigures]

section
variable (l : Ledger) (i : SlotIx) (o : PeriodOutcome)

@[simp] theorem Ledger.period_retire_self : (l.retire i o).sched.period i = (l.sched.period i).retire o := by
  simp [Ledger.retire]

theorem Ledger.period_retire_of_ne {j : SlotIx} (h : j ≠ i) :
    (l.retire i o).sched.period j = l.sched.period j := by
  simp [Ledger.retire, Schedule.period_setPeriod_of_ne _ _ _ h]

@[simp] theorem Ledger.walk_retire : (l.retire i o).sched.walk = l.sched.walk := rfl
@[simp] theorem Ledger.stall_retire : (l.retire i o).sched.stall = l.sched.stall := rfl
@[simp] theorem Ledger.fallback_retire : (l.retire i o).sched.fallback = l.sched.fallback := rfl
@[simp] theorem Ledger.clockSet_retire : (l.retire i o).sched.clockSet = l.sched.clockSet := rfl
@[simp] theorem Ledger.clock_retire : (l.retire i o).sched.clock = l.sched.clock := rfl
@[simp] theorem Ledger.tickAt_retire : (l.retire i o).sched.tickAt = l.sched.tickAt := rfl
@[simp] theorem Ledger.clockValue_retire : (l.retire i o).sched.clockValue = l.sched.clockValue := rfl
@[simp] theorem Ledger.reports_retire : (l.retire i o).reports =
    l.reports.offer (((l.sched.period i).retire o).notice i l.sched.clockValue) := rfl

theorem Ledger.zoneHolder_retire (z : Zone) :
    (l.retire i o).sched.zoneHolder[z] =
      if l.sched.zoneHolder[z] = some i then none else l.sched.zoneHolder[z] :=
  (l.sched.setPeriod i ((l.sched.period i).retire o)).zoneHolder_drop i z

theorem Ledger.stageHolder_retire (st : Stage) :
    (l.retire i o).sched.stageHolder[st] =
      if l.sched.stageHolder[st] = some i then none else l.sched.stageHolder[st] :=
  (l.sched.setPeriod i ((l.sched.period i).retire o)).stageHolder_drop i st

end

/-! ### The phases of an event (R91, R92) -/

/-- What a phase that retires some of the periods named leaves, slot by slot. -/
def Ledger.phase (l : Ledger) (o : PeriodOutcome) (goes : SlotIx → Bool) (slots : List SlotIx) : Ledger where
  sched := { l.sched with
    periods := Vector.ofFn fun i : SlotIx => if goes i then (l.sched.period i).retire o else l.sched.period i
    zoneHolder := Vector.ofFn fun z : Zone => l.sched.zoneHolder[z].filter (!goes ·)
    stageHolder := Vector.ofFn fun st : Stage => l.sched.stageHolder[st].filter (!goes ·) }
  reports := slots.foldl
    (fun r i => if goes i then r.offer (((l.sched.period i).retire o).notice i l.sched.clockValue) else r)
    l.reports

theorem Ledger.phase_none (l : Ledger) (o : PeriodOutcome) (slots : List SlotIx) :
    l.phase o (fun _ => false) slots = l := by
  have periods : (Vector.ofFn fun i : SlotIx => l.sched.period i) = l.sched.periods := by
    ext i hi
    simp [Schedule.period]
  have zones : (Vector.ofFn fun z : Zone => l.sched.zoneHolder[z].filter fun _ => true) = l.sched.zoneHolder := by
    ext z hz
    simp
  have stages : (Vector.ofFn fun st : Stage => l.sched.stageHolder[st].filter fun _ => true) =
      l.sched.stageHolder := by
    ext z hz
    simp
  have reports : slots.foldl (fun r _ => r) l.reports = l.reports := by
    induction slots with
    | nil => rfl
    | cons _ _ ih => exact ih
  simp only [Ledger.phase, Bool.false_eq_true, if_false, Bool.not_false, periods, zones, stages, reports]

/-- A retirement before a phase that leaves the slot alone is a part of the phase. -/
theorem Ledger.phase_retire (l : Ledger) (o : PeriodOutcome) {goes : SlotIx → Bool} {i : SlotIx}
    {slots : List SlotIx} (hgoes : goes i = false) (hi : i ∉ slots) :
    (l.retire i o).phase o goes slots = l.phase o (fun j => decide (j = i) || goes j) (i :: slots) := by
  have other {j : SlotIx} (h : goes j = true) : j ≠ i := fun hj => by simp [hj, hgoes] at h
  have holder (h : Option SlotIx) : (if h = some i then none else h).filter (!goes ·) =
      h.filter fun j => !(decide (j = i) || goes j) := by
    cases h with
    | none => simp
    | some j => by_cases hj : j = i <;> simp [hj, Option.filter]
  have periods (j : SlotIx) :
      (if goes j then ((l.retire i o).sched.period j).retire o else (l.retire i o).sched.period j) =
        if (decide (j = i) || goes j) then (l.sched.period j).retire o else l.sched.period j := by
    by_cases hj : j = i
    · simp [hj, hgoes]
    · simp [hj, l.period_retire_of_ne i o hj]
  have reports (r : Reports) (j : SlotIx) (hj : j ∈ slots) :
      (if goes j then r.offer ((((l.retire i o).sched.period j).retire o).notice j l.sched.clockValue) else r) =
        if (decide (j = i) || goes j) then r.offer (((l.sched.period j).retire o).notice j l.sched.clockValue)
        else r := by
    have hne : j ≠ i := fun h => hi (h ▸ hj)
    simp [hne, l.period_retire_of_ne i o hne]
  simp only [Ledger.phase, periods, Ledger.zoneHolder_retire, Ledger.stageHolder_retire, holder,
    Ledger.walk_retire, Ledger.stall_retire, Ledger.fallback_retire, Ledger.clockSet_retire, Ledger.clock_retire,
    Ledger.tickAt_retire, Ledger.clockValue_retire, Ledger.reports_retire, List.foldl_cons, decide_true,
    Bool.true_or, if_true, List.foldl_ext _ _ _ reports]

/-- A phase whose condition on a slot no other slot's retirement touches. -/
theorem Ledger.foldl_retire (o : PeriodOutcome) (cond : Schedule → SlotIx → Bool)
    (hstable : ∀ (l : Ledger) (i j : SlotIx), j ≠ i → cond (l.retire i o).sched j = cond l.sched j)
    {slots : List SlotIx} (hnodup : slots.Nodup) (l : Ledger) :
    slots.foldl
        (fun l i => if (l.sched.period i).state = .inForce ∧ cond l.sched i = true then l.retire i o else l) l =
      l.phase o (fun i => decide (i ∈ slots ∧ (l.sched.period i).state = .inForce ∧ cond l.sched i = true))
        slots := by
  induction slots generalizing l with
  | nil => simp [Ledger.phase_none]
  | cons i slots ih =>
    obtain ⟨hi, hnodup⟩ := List.nodup_cons.mp hnodup
    rw [List.foldl_cons, ih hnodup]
    split
    · next h =>
      rw [Ledger.phase_retire _ _ (by simp [hi]) hi]
      congr 1
      funext j
      by_cases hj : j = i
      · simp [hj, h]
      · simp [hj, l.period_retire_of_ne i o hj, hstable l i j hj]
    · next h =>
      have stays : ∀ j, decide (j ∈ slots ∧ (l.sched.period j).state = .inForce ∧ cond l.sched j = true) =
          decide (j ∈ i :: slots ∧ (l.sched.period j).state = .inForce ∧ cond l.sched j = true) := by
        intro j
        by_cases hj : j = i
        · simp [hj, hi, h]
        · simp [hj]
      unfold Ledger.phase
      simp only [stays, List.foldl_cons, List.mem_cons_self, true_and, decide_eq_true_eq, if_neg h]

theorem Schedule.holdsNothing_iff (x : Schedule) (i : SlotIx) :
    x.holdsNothing i = true ↔ (∀ z : Zone, x.zoneHolder[z] ≠ some i) ∧ ∀ st : Stage, x.stageHolder[st] ≠ some i := by
  simp [Schedule.holdsNothing, Schedule.zonesHeld, Schedule.stagesHeld, mem_allZones, mem_allStages]

theorem Ledger.holdsNothing_retire (l : Ledger) (o : PeriodOutcome) (i j : SlotIx) (h : j ≠ i) :
    (l.retire i o).sched.holdsNothing j = l.sched.holdsNothing j := by
  have keeps (v : Option SlotIx) : (if v = some i then none else v) ≠ some j ↔ v ≠ some j := by
    split
    · next hv => simp [hv, h.symm]
    · exact Iff.rfl
  rw [Bool.eq_iff_iff, Schedule.holdsNothing_iff, Schedule.holdsNothing_iff]
  simp only [Ledger.zoneHolder_retire, Ledger.stageHolder_retire, keeps]

theorem Ledger.retireEnded_eq (l : Ledger) :
    l.retireEnded = l.phase .ended
      (fun i => decide ((l.sched.period i).state = .inForce ∧ (l.sched.period i).stop ≤ l.sched.clock)) allSlots := by
  have stable (l : Ledger) (i j : SlotIx) (h : j ≠ i) :
      decide (((l.retire i .ended).sched.period j).stop ≤ (l.retire i .ended).sched.clock) =
        decide ((l.sched.period j).stop ≤ l.sched.clock) := by
    rw [l.period_retire_of_ne i _ h, Ledger.clock_retire]
  refine (Ledger.foldl_retire .ended (fun x i => decide ((x.period i).stop ≤ x.clock)) stable allSlots_nodup l).trans ?_
  simp only [mem_allSlots, true_and, decide_eq_true_eq]

theorem Ledger.cutShort_eq (l : Ledger) :
    l.cutShort = l.phase .cutShort
      (fun i => decide ((l.sched.period i).state = .inForce ∧ (∀ z : Zone, l.sched.zoneHolder[z] ≠ some i) ∧
        ∀ st : Stage, l.sched.stageHolder[st] ≠ some i)) allSlots := by
  refine (Ledger.foldl_retire .cutShort Schedule.holdsNothing
    (fun l i j h => l.holdsNothing_retire _ i j h) allSlots_nodup l).trans ?_
  simp only [mem_allSlots, true_and, Schedule.holdsNothing_iff]

/-- Settles O25: one retirement, and the two phases. -/
theorem retirementHandsBackItsSubjects : Obligations.RetirementHandsBackItsSubjects := by
  refine ⟨fun l i o => ?_, fun l => ?_⟩
  · intro p q
    have hq : q = p.retire o := l.period_retire_self i o
    refine ⟨?_, fun j h => l.period_retire_of_ne i o h, l.zoneHolder_retire i o, l.stageHolder_retire i o, rfl, ?_⟩
    · rw [hq, Period.retire]
      simp only [PeriodOutcome.keepsFigures_iff]
    · rw [hq]
      rfl
  · intro x phase
    have phases {o : PeriodOutcome} (ho : o.keepsFigures = true) (goes : SlotIx → Bool) :
        l.phase o goes allSlots = phase o goes := by
      have kept (i : SlotIx) : (l.sched.period i).retire o =
          { l.sched.period i with state := .retired, outcome := o, validated := false } := by
        simp [Period.retire, ho]
      have noticed (i : SlotIx) : ((l.sched.period i).retire o).notice i l.sched.clockValue =
          .periodRetired i o (x.period i).start (x.period i).stop (x.period i).zones (x.period i).stages
            (x.period i).exceed (x.period i).worst (if x.clockSet then some x.clock else none) := by
        rw [kept]
        rfl
      have holder (h : Option SlotIx) : h.filter (!goes ·) = (match h with
          | some i => if goes i then none else some i
          | none => none) := by
        rcases h with _ | i
        · rfl
        · cases hg : goes i <;> simp [Option.filter, hg]
      unfold Ledger.phase
      simp only [noticed]
      simp only [kept, holder, allSlots_eq]
      rfl
    exact ⟨l.retireEnded_eq.trans (phases rfl _), l.cutShort_eq.trans (phases rfl _)⟩

end Sys2Proof.Machine

/-! The walk (5.3): one examination by its verdict, and the chain of resolutions. -/

namespace Sys2Proof.Machine

/-- A period awaits its resolution. -/
def PeriodState.awaits (x : PeriodState) : Bool := x == .waiting || x == .pending

theorem PeriodState.awaits_iff {x : PeriodState} : x.awaits = true ↔ x = .waiting ∨ x = .pending := by
  cases x <;> decide

theorem PeriodState.awaits_eq_false_iff {x : PeriodState} :
    x.awaits = false ↔ x = .empty ∨ x = .retired ∨ x = .inForce := by
  cases x <;> decide

theorem PeriodState.not_awaits_iff {x : PeriodState} : x.awaits = false ↔ x ≠ .waiting ∧ x ≠ .pending := by
  cases x <;> decide

/-! ### Verdicts (R87, R88) -/

section
variable {p : Period} {clockSet : Bool} {now : Nat}

theorem Period.invalid_iff : p.invalid = true ↔ p.stop ≤ p.start ∨ (p.zones = 0 ∧ p.stages = 0) ∨ p.short < 300 ∨
    1400 < p.short ∨ p.long < 300 ∨ 1400 < p.long ∨ p.k < 1 ∨ 15 < p.k ∨ p.ceiling < 300 ∨ 1500 < p.ceiling := by
  simp [Period.invalid, or_assoc]

theorem Period.passes_iff {invalid : Prop} (h : p.invalid = true ↔ invalid) :
    p.validated = true ∨ ¬invalid ↔ ¬(p.validated = false ∧ p.invalid = true) := by
  rw [h, not_and_or, Bool.not_eq_false]

theorem Period.verdict_stall_iff : p.verdict clockSet now = .stall ↔ p.state.awaits = false := by
  unfold Period.verdict
  cases p.state
  case waiting | pending =>
    dsimp only
    split_ifs <;> simp [PeriodState.awaits]
  all_goals simp [PeriodState.awaits]

theorem Period.verdict_of_awaits (h : p.state.awaits = true) :
    p.verdict clockSet now =
      if clockSet = false then .wait
      else if p.validated = false ∧ p.invalid = true then .reject
      else if p.stop ≤ now then .skip
      else if now < p.start then .wait
      else .force := by
  unfold Period.verdict
  rcases PeriodState.awaits_iff.mp h with h | h <;> simp only [h]

end

namespace Ledger

/-! ### One examination (R85 to R89) -/

/-- The period at the walk position. -/
def current (l : Ledger) : Period := l.sched.period l.sched.walk

/-- The verdict on the period at the walk position. -/
def verdict (l : Ledger) : Verdict := l.current.verdict l.sched.clockSet l.sched.clock

/-- A period that waits for its start, or for the clock. -/
def keepPending (l : Ledger) : Ledger where
  sched := l.sched.setPeriod l.sched.walk
    { l.current with state := .pending, validated := l.current.validated || l.sched.clockSet }
  reports := l.reports

/-- A validated period takes force. -/
def force (l : Ledger) : Ledger :=
  ({ l with sched := l.sched.setPeriod l.sched.walk { l.current with validated := true } } : Ledger).takeForce
    l.sched.walk

/-- What the verdict makes of the period at the walk position, when the walk goes on from it. -/
inductive Resolves (l : Ledger) : Ledger → Prop where
  | reject : l.verdict = .reject → Resolves l (l.retire l.sched.walk .rejected)
  | skip : l.verdict = .skip → Resolves l (l.retire l.sched.walk .skipped)
  | force : l.verdict = .force → Resolves l l.force

variable {l l' : Ledger}

theorem examine_stall (h : l.verdict = .stall) (n : Nat) : l.examine (n + 1) = l.stall := by
  simp only [verdict, current] at h
  simp only [examine, h]

theorem examine_wait (h : l.verdict = .wait) (n : Nat) : l.examine (n + 1) = l.keepPending := by
  simp only [verdict, current] at h
  simp only [examine, h]
  rfl

theorem Resolves.examine (h : l.Resolves l') (n : Nat) : l.examine (n + 1) = l'.advance.examine n := by
  cases h with
  | reject hv | skip hv =>
    simp only [verdict, current] at hv
    simp only [Ledger.examine, hv]
  | force hv =>
    simp only [verdict, current] at hv
    simp only [Ledger.examine, hv]
    rfl

/-- An examination stalls, waits, or resolves the period. -/
theorem examination_cases (l : Ledger) :
    l.verdict = .stall ∨ l.verdict = .wait ∨ ∃ l', l.Resolves l' := by
  cases h : l.verdict with
  | stall => exact .inl rfl
  | wait => exact .inr (.inl rfl)
  | reject => exact .inr (.inr ⟨_, .reject h⟩)
  | skip => exact .inr (.inr ⟨_, .skip h⟩)
  | force => exact .inr (.inr ⟨_, .force h⟩)

/-! ### A resolution -/

theorem Resolves.awaits (h : l.Resolves l') : l.current.state.awaits = true := by
  have hne : l.verdict ≠ .stall := by cases h <;> simp_all
  exact Bool.not_eq_false _ ▸ mt Period.verdict_stall_iff.mpr hne

@[simp] theorem period_force_self (l : Ledger) : l.force.sched.period l.sched.walk =
    { l.current with
      state := .inForce, validated := true, start := max l.current.start l.sched.clock, exceed := 0
      worst := none } := by
  simp [force, takeForce, Schedule.take, Schedule.period, Schedule.setPeriod]

/-- A period whose start has come takes force from now. -/
theorem force_eq (h : l.current.start ≤ l.sched.clock) :
    l.force = { l with sched := { l.sched.take l.sched.walk l.current.zones l.current.stages with
      periods := l.sched.periods.set l.sched.walk { l.current with
        state := .inForce, validated := true, start := l.sched.clock, exceed := 0, worst := none } } } := by
  simp only [force, takeForce, Schedule.period_setPeriod_self]
  simp only [Schedule.setPeriod, Vector.set_set, max_eq_right h, Schedule.take]

theorem period_force_of_ne (l : Ledger) {j : SlotIx} (h : j ≠ l.sched.walk) :
    l.force.sched.period j = l.sched.period j := by
  have hval : l.sched.walk.val ≠ j.val := fun hij => h (Fin.ext hij.symm)
  simp [force, takeForce, Schedule.take, Schedule.period, Schedule.setPeriod, hval]

theorem Resolves.walk (h : l.Resolves l') : l'.sched.walk = l.sched.walk := by cases h <;> rfl

theorem Resolves.period_of_ne (h : l.Resolves l') {j : SlotIx} (hj : j ≠ l.sched.walk) :
    l'.sched.period j = l.sched.period j := by
  cases h with
  | reject | skip => exact l.period_retire_of_ne _ _ hj
  | force => exact l.period_force_of_ne hj

theorem Resolves.resolved (h : l.Resolves l') : (l'.sched.period l.sched.walk).state.awaits = false := by
  cases h with
  | reject | skip => rw [period_retire_self]; rfl
  | force => rw [period_force_self]; rfl

/-! ### The chain ends (R85) -/

/-- The slots whose periods await their resolution. -/
def awaiting (l : Ledger) : Finset SlotIx := Finset.univ.filter fun i => (l.sched.period i).state.awaits = true

theorem mem_awaiting {i : SlotIx} : i ∈ l.awaiting ↔ (l.sched.period i).state.awaits = true := by
  simp [awaiting]

theorem Resolves.awaiting_lt (h : l.Resolves l') : l'.advance.awaiting.card < l.awaiting.card := by
  refine Finset.card_lt_card (Finset.ssubset_iff_of_subset (fun j hj => ?_) |>.mpr ?_)
  · by_cases hw : j = l.sched.walk
    · rw [hw]
      exact mem_awaiting.mpr h.awaits
    · exact mem_awaiting.mpr (h.period_of_ne hw ▸ mem_awaiting.mp hj)
  · refine ⟨l.sched.walk, mem_awaiting.mpr h.awaits, fun hin => ?_⟩
    exact Bool.false_ne_true (h.resolved.symm.trans (mem_awaiting.mp hin))

theorem awaiting_card_le (l : Ledger) : l.awaiting.card ≤ 32 := Finset.card_le_univ _

/-- More fuel than awaiting periods is enough. -/
theorem examine_succ {n : Nat} (h : l.awaiting.card < n) : l.examine (n + 1) = l.examine n := by
  induction n generalizing l with
  | zero => omega
  | succ n ih =>
    rcases l.examination_cases with hs | hw | ⟨l', hr⟩
    · rw [examine_stall hs, examine_stall hs]
    · rw [examine_wait hw, examine_wait hw]
    · rw [hr.examine, hr.examine, ih (by have := hr.awaiting_lt; omega)]

theorem walk_stall (h : l.verdict = .stall) : l.walk = l.stall := examine_stall h 32

theorem walk_wait (h : l.verdict = .wait) : l.walk = l.keepPending := examine_wait h 32

theorem Resolves.walk_eq (h : l.Resolves l') : l.walk = l'.advance.walk := by
  refine (h.examine 32).trans (examine_succ ?_).symm
  have := h.awaiting_lt
  have := l.awaiting_card_le
  omega

/-- Induction along the chain of resolutions. -/
theorem walk_induct {P : Ledger → Prop} (stall : ∀ l : Ledger, l.verdict = .stall → P l)
    (wait : ∀ l : Ledger, l.verdict = .wait → P l)
    (resolve : ∀ l l' : Ledger, l.Resolves l' → P l'.advance → P l) (l : Ledger) : P l := by
  induction h : l.awaiting.card using Nat.strong_induction_on generalizing l with
  | _ n ih =>
    rcases l.examination_cases with hs | hw | ⟨l', hr⟩
    · exact stall l hs
    · exact wait l hw
    · exact resolve l l' hr (ih _ (h ▸ hr.awaiting_lt) _ rfl)

theorem stall_sched (l : Ledger) : l.stall.sched = { l.sched with stall := true } := by
  unfold stall
  split
  · next h => rw [← h]
  · rfl

/-- Where the chain of resolutions ends. -/
theorem walk_ends (l : Ledger) :
    (l.walk.sched.period l.walk.sched.walk).state = .pending ∨
      (l.walk.sched.stall = true ∧ (l.walk.sched.period l.walk.sched.walk).state.awaits = false) := by
  induction l using walk_induct with
  | stall l h =>
    refine .inr ?_
    rw [walk_stall h, stall_sched]
    exact ⟨rfl, Period.verdict_stall_iff.mp h⟩
  | wait l h =>
    refine .inl ?_
    rw [walk_wait h]
    exact congrArg Period.state (l.sched.period_setPeriod_self l.sched.walk _)
  | resolve l l' h ih => rwa [h.walk_eq]

end Ledger

/-- Settles O26: where the chain ends, and one examination by the state of its period. -/
theorem walkEndsAtPendingOrStall : Obligations.WalkEndsAtPendingOrStall := by
  intro l
  refine ⟨l.walk_ends.imp_right fun ⟨hstall, hstate⟩ => ⟨hstall, PeriodState.not_awaits_iff.mp hstate⟩, ?_⟩
  intro x i p invalid passes goesOn becomes taken
  have resolved {k : Ledger} (h : l.Resolves k) : l.walk = goesOn k := by
    rw [h.walk_eq]
    have hwalk : k.sched.walk = i := h.walk
    rw [Ledger.advance, hwalk]
  refine ⟨fun hstate => ?_, fun hstate => ?_⟩
  · have hv : l.verdict = .stall := Period.verdict_stall_iff.mpr (PeriodState.awaits_eq_false_iff.mpr hstate)
    rw [Ledger.walk_stall hv]
    exact ⟨fun hs => if_pos hs, fun hs => if_neg (Bool.eq_false_iff.mp hs)⟩
  · have hv : l.verdict = _ := Period.verdict_of_awaits (PeriodState.awaits_iff.mpr hstate)
    refine ⟨fun hclock => ?_, fun hclock => ?_⟩
    · have marked : (l.current.validated || l.sched.clockSet) = l.current.validated := by
        rw [show l.sched.clockSet = false from hclock, Bool.or_false]
      rw [Ledger.walk_wait (hv.trans (if_pos hclock)), Ledger.keepPending, marked]
      rfl
    · rw [if_neg (by simp [show l.sched.clockSet = true from hclock])] at hv
      have hpasses : passes ↔ ¬(p.validated = false ∧ p.invalid = true) := Period.passes_iff Period.invalid_iff
      refine ⟨fun hfail => resolved (.reject (hv.trans (if_pos (not_not.mp (mt hpasses.mpr hfail))))), ?_, ?_, ?_⟩
      · intro hpass hstop
        exact resolved (.skip (hv.trans ((if_neg (hpasses.mp hpass)).trans (if_pos hstop))))
      · intro hpass hstop hstart
        have marked : (l.current.validated || l.sched.clockSet) = true := by
          rw [show l.sched.clockSet = true from hclock, Bool.or_true]
        rw [Ledger.walk_wait (hv.trans ((if_neg (hpasses.mp hpass)).trans
          ((if_neg (Nat.not_le.mpr hstop)).trans (if_pos hstart)))), Ledger.keepPending, marked]
        rfl
      · intro hpass hstop hstart
        have forced := resolved (.force (hv.trans ((if_neg (hpasses.mp hpass)).trans
          ((if_neg (Nat.not_le.mpr hstop)).trans (if_neg (Nat.not_lt.mpr hstart))))))
        rw [forced, Ledger.force_eq hstart]
        rfl

end Sys2Proof.Machine

/-! The events of the schedule (5.2 to 5.6): the clock tick, SET_TIME, and the requests of the period ring. -/

namespace Sys2Proof.Machine

/-! ### Events in the state -/

theorem State.permissionClose_huntConsole (s : State) (before : Schedule) :
    s.huntConsole.permissionClose before = (s.permissionClose before).huntConsole := by
  rw [State.permissionClose_eq, State.permissionClose_eq]
  rfl

theorem State.schedEvent_huntConsole (s : State) (f : Ledger → Ledger) :
    s.huntConsole.schedEvent f = (s.schedEvent f).huntConsole :=
  State.permissionClose_huntConsole { s with
    sched := (f { sched := s.sched, reports := s.reports }).sched
    reports := (f { sched := s.sched, reports := s.reports }).reports } s.sched

theorem State.sched_schedEvent (s : State) (f : Ledger → Ledger) :
    (s.schedEvent f).sched = (f { sched := s.sched, reports := s.reports }).sched := by
  rw [State.schedEvent, State.permissionClose_eq]

/-! ### The clock tick (R94, R97) -/

theorem State.clockTick_stopped {s : State} (h : s.sched.tickAt = none) : s.clockTick = s := by
  unfold State.clockTick
  rw [h]

/-- The schedule with one more second counted. -/
def Ledger.counted (l : Ledger) (due : Nat) : Ledger :=
  { l with sched := { l.sched with
    clock := min (l.sched.clock + 1) Config.max32, tickAt := some (due + Config.second) } }

theorem State.clockTick_due {s : State} {due : Nat} (h : s.sched.tickAt = some due) :
    s.clockTick = (s.reach due).schedEvent fun l => (l.counted due).retireEnded.walk.cutShort := by
  unfold State.clockTick
  rw [h]
  rfl

theorem min_max32 {c : Nat} (h : c ≤ 4294967295) :
    min (c + 1) Config.max32 = if c < 4294967295 then c + 1 else 4294967295 := by
  unfold Config.max32
  split <;> omega

theorem Schedule.permission_held {x : Schedule} {st : Stage} {i : SlotIx} (h : x.stageHolder[st] = some i) :
    x.permission st = (x.period i).permits.getLsb st ∧ x.fadeTime st = (x.period i).fade := by
  simp only [Schedule.permission, Schedule.fadeTime, h, and_self]

theorem Schedule.permission_fallback {x : Schedule} {st : Stage} (h : x.stageHolder[st] = none) :
    x.permission st = x.fallback.permits.getLsb st ∧ x.fadeTime st = x.fallback.fade := by
  simp only [Schedule.permission, Schedule.fadeTime, h, and_self]

/-- Settles O24: the tick of a set clock, permissions by their holder, and the permission close. -/
theorem clockTickRunsItsPhasesAndPermissionsClose : Obligations.ClockTickRunsItsPhasesAndPermissionsClose := by
  refine ⟨fun s hrun => ⟨fun h => ?_, fun due h => ?_⟩,
    fun x st => ⟨fun i => Schedule.permission_held, Schedule.permission_fallback⟩, fun s before => ?_⟩
  · rw [exec_venueClockTick, State.act_running hrun, State.clockTick_stopped h]
  · intro counted hclock
    rw [exec_venueClockTick, State.act_running hrun, State.clockTick_due h]
    have hcounted : Ledger.counted { sched := s.sched, reports := s.reports } due = counted := by
      rw [Ledger.counted, min_max32 hclock]
    clear_value counted
    rw [← hcounted]
    rfl
  · intro told
    rw [State.permissionClose_eq]
    congr 1
    simp only [List.foldl_append]
    rfl

/-! ### Marks as bits -/

theorem marks_cons (b : Bool) (bs : List Bool) : marks (b :: bs) = (if b then 1 else 0) + 2 * marks bs := by
  unfold marks
  rw [List.zipIdx_cons, List.zipIdx_succ, List.map_cons, List.sum_cons, List.map_map, ← List.sum_map_mul_left]
  congr 2
  refine List.map_congr_left fun p _ => ?_
  cases hp : p.1 <;> simp [hp, pow_succ, mul_comm]

theorem testBit_marks (bs : List Bool) (i : Nat) : (marks bs).testBit i = bs.getD i false := by
  induction bs generalizing i with
  | nil => simp [marks]
  | cons b bs ih =>
    rw [marks_cons]
    cases i with
    | zero => cases b <;> simp
    | succ i =>
      have half : ((if b then 1 else 0) + 2 * marks bs) / 2 = marks bs := by split <;> omega
      rw [Nat.testBit_succ, half, ih]
      rfl

theorem getLsb_marks (bs : List Bool) (i : Fin 8) : (BitVec.ofNat 8 (marks bs)).getLsb i = bs.getD i false := by
  have bit : (BitVec.ofNat 8 (marks bs)).getLsbD i.val = (marks bs).testBit i.val := by
    rw [BitVec.getLsbD_ofNat, decide_eq_true i.isLt, Bool.true_and]
  rw [← testBit_marks]
  exact bit

/-! ### Requests that name a slot of the period ring -/

theorem slotIxOf_val (i : SlotIx) : slotIxOf i.val = some i := dif_pos i.isLt

theorem slotIxOf_eq_none {n : Nat} (h : 32 ≤ n) : slotIxOf n = none := dif_neg (Nat.not_lt.mpr h)

theorem PeriodState.controller_iff {x : PeriodState} :
    x.controller = true ↔ x = .waiting ∨ x = .pending ∨ x = .inForce := by
  cases x <;> simp [PeriodState.controller]

/-- The byte of the zones a period in force holds. -/
def Schedule.zoneMarks (x : Schedule) (i : SlotIx) : BitVec 8 :=
  BitVec.ofNat 8 (if (x.period i).state == .inForce then marks (x.zonesHeld i) else 0)

/-- The byte of the stages a period in force holds. -/
def Schedule.stageMarks (x : Schedule) (i : SlotIx) : BitVec 8 :=
  BitVec.ofNat 8 (if (x.period i).state == .inForce then marks (x.stagesHeld i) else 0)

theorem Schedule.getLsb_zoneMarks (x : Schedule) (i : SlotIx) (z : Zone) :
    (x.zoneMarks i).getLsb z = true ↔ (x.period i).state = .inForce ∧ x.zoneHolder[z] = some i := by
  unfold Schedule.zoneMarks
  split
  · next h =>
    rw [getLsb_marks, Schedule.zonesHeld, allZones_eq, List.getD_eq_getElem?_getD]
    simp [eq_of_beq h]
  · next h => simp [show (x.period i).state ≠ .inForce by simpa using h]

theorem Schedule.getLsb_stageMarks (x : Schedule) (i : SlotIx) (b : Zone) :
    (x.stageMarks i).getLsb b = true ↔
      (x.period i).state = .inForce ∧ ∃ st : Stage, st.val = b.val ∧ x.stageHolder[st] = some i := by
  unfold Schedule.stageMarks
  split
  · next h =>
    rw [getLsb_marks, Schedule.stagesHeld, allStages_eq, List.getD_eq_getElem?_getD]
    by_cases hb : b.val < 4
    · have hget : (List.finRange 4)[b.val]? = some ⟨b.val, hb⟩ := by simp [hb]
      simp only [List.getElem?_map, hget, Option.map_some, Option.getD_some, beq_iff_eq, eq_of_beq h, true_and]
      exact ⟨fun held => ⟨_, rfl, held⟩, fun ⟨st, hst, held⟩ => (Fin.ext hst : st = ⟨b.val, hb⟩) ▸ held⟩
    · have hget : (List.finRange 4)[b.val]? = none := by simpa using hb
      simp only [List.getElem?_map, hget, Option.map_none, Option.getD_none, Bool.false_eq_true, false_iff]
      rintro ⟨-, st, hst, -⟩
      exact hb (hst ▸ st.isLt)
  · next h => simp [show (x.period i).state ≠ .inForce by simpa using h]

theorem ownReadPeriod_slot (i : SlotIx) (s : State) :
    ownReadPeriod i.val s =
      (let p := s.sched.period i
      (u8 0 ++ flag p.state.controller ++ u8 p.state.code ++ u32 p.start ++ u32 p.stop ++ u8 p.zones.toNat ++
        u8 p.stages.toNat ++ u8 p.permits.toNat ++ u16 p.short ++ u16 p.long ++ u8 p.k ++ u16 p.ceiling ++
        u16 p.fade ++ u8 p.margin ++ u8 p.outcome.code ++ u16 p.exceed ++ headroomBytes p.worst ++
        [s.sched.zoneMarks i, s.sched.stageMarks i], s)) := by
  simp only [ownReadPeriod, slotIxOf_val]
  rw [List.append_assoc _ (u8 _) (u8 _)]
  rfl

/-- Settles O28: GET_TIME, and READ_PERIOD of a slot out of and in the ring. -/
theorem scheduleReadsChangeNothing : Obligations.ScheduleReadsChangeNothing := by
  refine ⟨fun s seq hopen => State.request_read hopen .getTime seq rfl rfl, fun s seq slot hopen => ?_⟩
  intro read
  have reads {b : List Byte} (h : ownReadPeriod slot.toNat s.huntConsole = (b, s.huntConsole)) :
      read = .next (s.replied 0x21 seq b).transmit :=
    State.request_read hopen .readPeriod seq rfl ((ownerReply_readPeriod seq slot s.huntConsole).trans h)
  refine ⟨fun h => reads ?_, fun i hi => ?_⟩
  · rw [ownReadPeriod, slotIxOf_eq_none h]
    rfl
  · intro p
    refine ⟨s.sched.zoneMarks i, s.sched.stageMarks i, s.sched.getLsb_zoneMarks i, s.sched.getLsb_stageMarks i, ?_⟩
    rw [hi] at reads
    have controlled : (if p.state = .waiting ∨ p.state = .pending ∨ p.state = .inForce then 1 else 0) =
        if p.state.controller = true then 1 else 0 := by simp only [PeriodState.controller_iff]
    rw [controlled]
    exact reads (ownReadPeriod_slot i s.huntConsole)

/-! ### SET_TIME (R98) -/

theorem Schedule.someInForce_iff (x : Schedule) : x.someInForce = true ↔ ∃ i, (x.period i).state = .inForce := by
  simp [Schedule.someInForce, mem_allSlots]

/-- The periods after the clock is set to t. -/
def Schedule.clipped (x : Schedule) (t : Nat) : Vector Period 32 :=
  if x.clockSet = true ∧ t < x.clock then Vector.ofFn fun i : SlotIx => (x.period i).clipStart t else x.periods

theorem Schedule.clipped_get (x : Schedule) (t : Nat) (i : SlotIx) :
    (x.clipped t)[i] =
      if x.clockSet = true ∧ t < x.clock ∧ (x.period i).state = .inForce ∧ t < (x.period i).start
      then { x.period i with start := t } else x.period i := by
  unfold Schedule.clipped
  by_cases h : x.clockSet = true ∧ t < x.clock
  · rw [if_pos h, Fin.getElem_fin, Vector.getElem_ofFn]
    simp only [h.1, h.2, true_and, Period.clipStart]
  · rw [if_neg h, if_neg fun hc => h ⟨hc.1, hc.2.1⟩]
    rfl

/-- The schedule after the clock is set to t. -/
def State.timeSet (s : State) (t : Nat) : State :=
  { s with sched := { s.sched with
    periods := s.sched.clipped t, clock := t, clockSet := true, tickAt := some (s.now + Config.second) } }

/-- The clock as SET_TIME replies it. -/
def Schedule.clockBytes (x : Schedule) : List Byte := flag x.clockSet ++ u32 (if x.clockSet then x.clock else 0)

theorem ownSetTime_refused {s : State} {t : Nat}
    (h : s.sched.clockSet = true ∧ (∃ i, (s.sched.period i).state = .inForce) ∧ t + 300 < s.sched.clock) :
    ownSetTime t s = (stClockJump ++ s.sched.clockBytes, s) := by
  rw [← Schedule.someInForce_iff] at h
  exact if_pos h

theorem ownSetTime_set {s : State} {t : Nat}
    (h : ¬(s.sched.clockSet = true ∧ (∃ i, (s.sched.period i).state = .inForce) ∧ t + 300 < s.sched.clock)) :
    ownSetTime t s = (stOk ++ s.sched.clockBytes, s.timeSet t) := by
  rw [← Schedule.someInForce_iff] at h
  exact if_neg h

/-- Settles O27: a long jump back past a period in force, and any other setting of the clock. -/
theorem setTimeMovesTheClock : Obligations.SetTimeMovesTheClock := by
  intro s seq t0 t1 t2 t3 hopen t was jump
  have replies {b : List Byte} {u : State} (h : ownSetTime t s.huntConsole = (b, u.huntConsole)) :
      exec (.setTime seq [t0, t1, t2, t3]) s = .next (u.replied 0x02 seq b).transmit :=
    State.request_owned hopen .setTime seq rfl ((ownerReply_setTime seq t0 t1 t2 t3 s.huntConsole).trans h)
  clear_value t
  exact ⟨fun h => replies (ownSetTime_refused (s := s.huntConsole) h),
    fun h => ⟨s.timeSet t, replies (ownSetTime_set (s := s.huntConsole) h), rfl, s.sched.clipped_get t⟩⟩

/-! ### POST_PERIOD and RECALL_PERIOD (R78, R80) -/

/-- Slot number, state and outcome of a period in a reply. -/
theorem slotReply_eq (x : Schedule) (i : SlotIx) :
    slotReply x i = u8 i.val ++ u8 (x.period i).state.code ++ u8 (x.period i).outcome.code := rfl

/-- The phases of a post. -/
def Ledger.posted (l : Ledger) (i : SlotIx) (p : Period) : Ledger :=
  ({ l with sched := l.sched.post i p } : Ledger).walk.cutShort

theorem ownPost_refused {n : Nat} (h : 32 ≤ n) (f : PostedFields) (s : State) : ownPost n f s = (stBadField, s) := by
  rw [ownPost, slotIxOf_eq_none h]

theorem ownPost_notOwned {i : SlotIx} {s : State} (f : PostedFields)
    (h : (s.sched.period i).state = .waiting ∨ (s.sched.period i).state = .pending ∨
      (s.sched.period i).state = .inForce) : ownPost i.val f s = (stNotOwned, s) := by
  rw [← PeriodState.controller_iff] at h
  simp only [ownPost, slotIxOf_val, h, if_true]

theorem ownPost_written {i : SlotIx} {s : State} (f : PostedFields)
    (h : (s.sched.period i).state = .empty ∨ (s.sched.period i).state = .retired) :
    ownPost i.val f s =
      (stOk ++ slotReply (Ledger.posted { sched := s.sched, reports := s.reports } i f.period).sched i,
        s.schedEvent (Ledger.posted · i f.period)) := by
  have hfree : (s.sched.period i).state.controller = false := by
    rcases h with h | h <;> rw [h] <;> rfl
  simp only [ownPost, slotIxOf_val, hfree, Bool.false_eq_true, if_false, State.sched_schedEvent]
  rfl

theorem PostedFields.period_eq (f : PostedFields) : f.period =
    { state := .waiting, start := f.start, stop := f.stop, zones := f.zones, stages := f.stages.setWidth 4
      permits := f.permits.setWidth 4, short := f.short, long := f.long, k := f.k, ceiling := f.ceiling
      fade := max 10 (min 600 f.fade), margin := min 100 f.margin, outcome := .none, exceed := 0, worst := none
      validated := false } := by
  rw [PostedFields.period, BitVec.setWidth_eq_extractLsb' (by decide), BitVec.setWidth_eq_extractLsb' (by decide)]
  simp only [clamp, Nat.zero_max]

/-- Settles O29: a post to a slot out of the ring, to the controller's, and to a console-owned one. -/
theorem postPeriodWritesAConsoleOwnedSlot : Obligations.PostPeriodWritesAConsoleOwnedSlot := by
  intro s seq slot s0 s1 s2 s3 e0 e1 e2 e3 z st pm h0 h1 l0 l1 k c0 c1 f0 f1 m hopen post
  let fields : PostedFields :=
    { start := le32 s0 s1 s2 s3, stop := le32 e0 e1 e2 e3, zones := z, stages := st, permits := pm
      short := le16 h0 h1, long := le16 l0 l1, k := k.toNat, ceiling := le16 c0 c1, fade := le16 f0 f1
      margin := m.toNat }
  have replies {b : List Byte} {u : State} (h : ownPost slot.toNat fields s.huntConsole = (b, u.huntConsole)) :
      post = .next (u.replied 0x20 seq b).transmit :=
    State.request_owned hopen .postPeriod seq rfl h
  refine ⟨fun h => replies (ownPost_refused h _ _), fun i hi => ?_⟩
  rw [hi] at replies
  refine ⟨fun h => replies (ownPost_notOwned (s := s.huntConsole) _ h), fun h => ?_⟩
  have written := ownPost_written (s := s.huntConsole) fields h
  rw [State.schedEvent_huntConsole, PostedFields.period_eq] at written
  exact replies written

/-- The phases of a withdrawal: a period that was PENDING lets the walk go on. -/
def Ledger.withdrawn (l : Ledger) (i : SlotIx) : Ledger :=
  (if (l.sched.period i).state = .pending then (l.retire i .withdrawn).advance.walk
    else l.retire i .withdrawn).cutShort

theorem ownRecall_refused {n : Nat} (h : 32 ≤ n) (s : State) : ownRecall n s = (stBadField, s) := by
  rw [ownRecall, slotIxOf_eq_none h]

theorem ownRecall_inForce {i : SlotIx} {s : State} (h : (s.sched.period i).state = .inForce) :
    ownRecall i.val s = (stInForce ++ slotReply s.sched i, s) := by
  simp only [ownRecall, slotIxOf_val, h]

theorem ownRecall_free {i : SlotIx} {s : State}
    (h : (s.sched.period i).state = .empty ∨ (s.sched.period i).state = .retired) :
    ownRecall i.val s = (stOk ++ slotReply s.sched i, s) := by
  rcases h with h | h <;> simp only [ownRecall, slotIxOf_val, h]

theorem ownRecall_withdrawn {i : SlotIx} {s : State}
    (h : (s.sched.period i).state = .waiting ∨ (s.sched.period i).state = .pending) :
    ownRecall i.val s =
      (stOk ++ slotReply (Ledger.withdrawn { sched := s.sched, reports := s.reports } i).sched i,
        s.schedEvent (Ledger.withdrawn · i)) := by
  have event {f : Ledger → Ledger}
      (hf : f { sched := s.sched, reports := s.reports } =
        Ledger.withdrawn { sched := s.sched, reports := s.reports } i) :
      s.schedEvent f = s.schedEvent (Ledger.withdrawn · i) := by
    rw [State.schedEvent, hf]
    rfl
  rcases h with h | h
  · rw [← event (f := fun l => (l.retire i .withdrawn).cutShort) (by simp only [Ledger.withdrawn, h]; rfl)]
    simp only [ownRecall, slotIxOf_val, h, State.sched_schedEvent]
    simp only [Ledger.withdrawn, h]
    rfl
  · rw [← event (f := fun l => (l.retire i .withdrawn).advance.walk.cutShort)
      (by simp only [Ledger.withdrawn, h, if_true])]
    simp only [ownRecall, slotIxOf_val, h, State.sched_schedEvent]
    simp only [Ledger.withdrawn, h, if_true]

/-- Settles O30: a withdrawal by the state of the slot. -/
theorem recallWithdrawsAWaitingPeriod : Obligations.RecallWithdrawsAWaitingPeriod := by
  intro s seq slot hopen withdraw
  have replies {b : List Byte} {u : State} (h : ownRecall slot.toNat s.huntConsole = (b, u.huntConsole)) :
      withdraw = .next (u.replied 0x22 seq b).transmit :=
    State.request_owned hopen .recallPeriod seq rfl ((ownerReply_recallPeriod seq slot s.huntConsole).trans h)
  refine ⟨fun h => replies (ownRecall_refused h _), fun i hi => ?_⟩
  rw [hi] at replies
  refine ⟨fun h => replies (ownRecall_inForce (s := s.huntConsole) h),
    fun h => replies (ownRecall_free (s := s.huntConsole) h), fun h => ?_⟩
  have gone := ownRecall_withdrawn (s := s.huntConsole) h
  rw [State.schedEvent_huntConsole] at gone
  exact replies gone

/-! ### SET_STAGE_RATES and SET_FALLBACK (R96, R133) -/

theorem clamp_zero (hi v : Nat) : clamp 0 hi v = min hi v := Nat.zero_max _

theorem ownSetRates_refused {n : Nat} (h : 4 ≤ n) (a r d : Nat) (s : State) :
    ownSetRates n a r d s = (stBadField, s) := by
  rw [ownSetRates, stageOf_eq_none h]

theorem ownSetRates_stored (st : Stage) (a r d : Nat) (s : State) :
    ownSetRates st.val a r d s =
      (stOk ++ u8 st.val ++ u8 (max 1 (min 100 a)) ++ u8 (max 1 (min 50 r)) ++ u8 (min 120 d),
        { s with engines := s.engines.set st { s.engine st with
          attack := max 1 (min 100 a), release := max 1 (min 50 r), hold := min 120 d } }) := by
  simp only [ownSetRates, stageOf_val, clamp_zero]
  rfl

theorem ownSetFallback_stored (f : Fallback) (s : State) :
    ownSetFallback f s =
      (stOk ++ u16 f.clamped.short ++ u16 f.clamped.long ++ u8 f.clamped.k ++ u16 f.clamped.ceiling ++
          u8 f.clamped.permits.toNat ++ u16 f.clamped.fade ++ u8 f.clamped.margin,
        ({ s with sched := { s.sched with fallback := f.clamped } } : State).permissionClose s.sched) := rfl

/-- Settles O42: the values stored and replied. -/
theorem settingsAreStoredClamped : Obligations.SettingsAreStoredClamped := by
  refine ⟨fun s seq st a r h hopen => ?_, fun s seq h0 h1 l0 l1 k c0 c1 pm f0 f1 m hopen => ?_⟩
  · have replies {b : List Byte} {u : State}
        (ho : ownSetRates st.toNat a.toNat r.toNat h.toNat s.huntConsole = (b, u.huntConsole)) :
        exec (.setStageRates seq [st, a, r, h]) s = .next (u.replied 0x30 seq b).transmit :=
      State.request_owned hopen .setStageRates seq rfl
        ((ownerReply_setStageRates seq st a r h s.huntConsole).trans ho)
    refine ⟨fun hst => replies (ownSetRates_refused hst _ _ _ _), fun stage hst => ?_⟩
    rw [hst] at replies
    exact replies (ownSetRates_stored stage _ _ _ s.huntConsole)
  · intro g
    let f : Fallback :=
      { short := le16 h0 h1, long := le16 l0 l1, k := k.toNat, ceiling := le16 c0 c1
        permits := pm.extractLsb' 0 4, fade := le16 f0 f1, margin := m.toNat }
    have hg : f.clamped = g := by
      simp only [Fallback.clamped, clamp_zero, g, BitVec.setWidth_eq_extractLsb' (show 4 ≤ 8 by decide)]
      rfl
    have stored : ownerReply .setFallback seq [h0, h1, l0, l1, k, c0, c1, pm, f0, f1, m] s.huntConsole = _ :=
      ownSetFallback_stored f s.huntConsole
    rw [hg] at stored
    clear_value g
    have closed := State.permissionClose_huntConsole { s with sched := { s.sched with fallback := g } } s.sched
    exact State.request_owned hopen .setFallback seq rfl (stored.trans (congrArg _ closed))

end Sys2Proof.Machine

/-! Legal gain engines (R122, R123): what each operation of an engine keeps. -/

namespace Sys2Proof.Machine

namespace Engine

/-! ### Legality by state -/

/-- The figures and settings of an engine are within their ranges. -/
structure InRange (e : Engine) : Prop where
  applied : e.applied ≤ 300
  target : e.target ≤ 300
  fadeTime : 10 ≤ e.fadeTime ∧ e.fadeTime ≤ 600
  attack : 1 ≤ e.attack ∧ e.attack ≤ 100
  release : 1 ≤ e.release ∧ e.release ≤ 50
  hold : e.hold ≤ 120
  misses : e.misses ≤ 5
  matched : e.matches_ ≤ 5

/-- What the engine's state says of its figures, its permission and its timers. -/
def Phased (e : Engine) : Prop :=
  match e.state with
  | .withheld => e.applied = 0 ∧ e.due = false ∧ e.refreshAt = none ∧ e.holdAt = none ∧ e.releaseAt = none ∧
      e.fade = none
  | .opened => e.applied = 0 ∧ e.target = 0 ∧ e.granted = true ∧ e.releaseAt = none ∧ e.fade = none
  | .pulling => e.applied < e.target ∧ e.granted = true ∧ e.releaseAt = none ∧ e.fade = none
  | .holding => 0 < e.applied ∧ e.target ≤ e.applied ∧ (e.target < e.applied → e.holdAt.isSome = true) ∧
      e.granted = true ∧ e.releaseAt = none ∧ e.fade = none
  | .easing => e.target < e.applied ∧ e.granted = true ∧ e.releaseAt.isSome = true ∧ e.fade = none
  | .fading => e.applied < 300 ∧ e.holdAt = none ∧ e.granted = false ∧ e.releaseAt = none ∧
      ∃ f, e.fade = some f ∧ 1 ≤ f.step ∧ f.step ≤ 3
  | .silenced => e.applied = 300 ∧ e.holdAt = none ∧ e.granted = false ∧ e.releaseAt = none ∧ e.fade = none

theorem Legal.inRange {e : Engine} (h : e.Legal) : e.InRange := by
  obtain ⟨-, h1, h2, h3, h4, h5, h6, h7, h8, h9, h10, h11, -⟩ := h
  exact ⟨h1, h2, ⟨h3, h4⟩, ⟨h5, h6⟩, ⟨h7, h8⟩, h9, h10, h11⟩

theorem Legal.phased {e : Engine} (h : e.Legal) : e.Phased := by
  obtain ⟨hstate, -, -, -, -, -, -, -, -, -, -, -, hgranted, hdenied, hrel, hfade, hstep⟩ := h
  have noRelease (h : e.state ≠ .easing) : e.releaseAt = none :=
    Option.not_isSome_iff_eq_none.mp (mt hrel.mp h)
  have noFade (h : e.state ≠ .fading) : e.fade = none := Option.not_isSome_iff_eq_none.mp (mt hfade.mp h)
  cases hs : e.state <;> simp only [StateLegal, Phased, hs] at hstate ⊢
  case withheld =>
    obtain ⟨ha, hdue, hrefresh, hhold⟩ := hstate
    exact ⟨ha, hdue, hrefresh, hhold, noRelease (by simp [hs]), noFade (by simp [hs])⟩
  case opened =>
    exact ⟨hstate.1, hstate.2, hgranted (by simp [hs, EngineState.limiting]), noRelease (by simp [hs]),
      noFade (by simp [hs])⟩
  case pulling =>
    exact ⟨hstate, hgranted (by simp [hs, EngineState.limiting]), noRelease (by simp [hs]), noFade (by simp [hs])⟩
  case holding =>
    obtain ⟨hpos, hle, hhold⟩ := hstate
    exact ⟨hpos, hle, hhold, hgranted (by simp [hs, EngineState.limiting]), noRelease (by simp [hs]),
      noFade (by simp [hs])⟩
  case easing => exact ⟨hstate, hgranted (by simp [hs, EngineState.limiting]), hrel.mpr hs, noFade (by simp [hs])⟩
  case fading =>
    obtain ⟨f, hf⟩ := Option.isSome_iff_exists.mp (hfade.mpr hs)
    exact ⟨hstate.1, hstate.2, hdenied (.inl hs), noRelease (by simp [hs]), f, hf, hstep f hf⟩
  case silenced =>
    exact ⟨hstate.1, hstate.2, hdenied (.inr hs), noRelease (by simp [hs]), noFade (by simp [hs])⟩

theorem InRange.legal {e : Engine} (h : e.InRange) (hp : e.Phased) : e.Legal := by
  obtain ⟨h1, h2, ⟨h3, h4⟩, ⟨h5, h6⟩, ⟨h7, h8⟩, h9, h10, h11⟩ := h
  refine ⟨?_, h1, h2, h3, h4, h5, h6, h7, h8, h9, h10, h11, ?_⟩
  · unfold StateLegal
    unfold Phased at hp
    cases hs : e.state <;> simp only [hs] at hp ⊢
    case withheld => exact ⟨hp.1, hp.2.1, hp.2.2.1, hp.2.2.2.1⟩
    case pulling | easing => exact hp.1
    case holding => exact ⟨hp.1, hp.2.1, hp.2.2.1⟩
    case opened | fading | silenced => exact ⟨hp.1, hp.2.1⟩
  · unfold Phased at hp
    cases hs : e.state <;> simp only [hs] at hp
    case fading =>
      obtain ⟨-, -, hden, hrel, f, hf, hstep⟩ := hp
      simp [EngineState.limiting, hden, hrel, hf, hstep]
    all_goals simp [EngineState.limiting, hp]

theorem Phased.limiting {e : Engine} (h : e.Phased) (hl : e.state.limiting = true) :
    e.granted = true ∧ e.fade = none ∧ (e.state ≠ .easing → e.releaseAt = none) := by
  unfold Phased at h
  cases hs : e.state <;> simp only [hs, EngineState.limiting, Bool.false_eq_true] at h hl
  all_goals simp [h]

variable {e : Engine} {now t : Nat} {st : Stage}

/-! ### Holding and easing -/

theorem InRange.toHolding (h : e.InRange) : (e.toHolding now).InRange := by
  unfold Engine.toHolding
  split <;> exact { h with }

theorem toHolding_phased (hpos : 0 < e.applied) (hle : e.target ≤ e.applied) (hg : e.granted = true)
    (hr : e.releaseAt = none) (hf : e.fade = none) : (e.toHolding now).Phased := by
  by_cases h : e.target < e.applied ∧ e.holdAt = none
  · rw [toHolding_ease h.1 h.2]
    exact ⟨h.1, hg, rfl, hf⟩
  · rw [toHolding_hold h]
    exact ⟨hpos, hle, fun hlt => Option.isSome_iff_ne_none.mpr fun hn => h ⟨hlt, hn⟩, hg, hr, hf⟩

/-! ### A told target (R124) -/

theorem Legal.tell_rise (h : e.Legal) (hl : e.state.limiting = true) (ht : t ≤ 300) (hlt : e.applied < t) :
    (e.tell now t).Legal := by
  obtain ⟨hg, hf, hr⟩ := h.phased.limiting hl
  rw [Engine.tell_rise hl hlt]
  refine InRange.legal { h.inRange with target := ht } ⟨hlt, hg, ?_, hf⟩
  dsimp only
  split
  · next hs => exact hr (by simp [hs])
  · rfl

theorem Legal.tell_reached (h : e.Legal) (hs : e.state = .pulling ∨ e.state = .easing) :
    (e.tell now e.applied).Legal := by
  obtain ⟨hg, hf, -⟩ := h.phased.limiting (by rcases hs with hs | hs <;> rw [hs] <;> rfl)
  rw [Engine.tell_reached hs rfl]
  refine InRange.legal { h.inRange with target := h.inRange.applied } ?_
  by_cases h0 : e.applied = 0
  · rw [Phased]
    simp only [h0, if_true]
    exact ⟨trivial, trivial, hg, trivial, hf⟩
  · rw [Phased]
    simp only [h0, if_false]
    exact ⟨Nat.pos_of_ne_zero h0, le_rfl, fun hlt => absurd hlt (lt_irrefl _), hg, trivial, hf⟩

theorem Legal.tell_fall (h : e.Legal) (hs : e.state = .pulling ∨ e.state = .holding) (hlt : t < e.applied) :
    (e.tell now t).Legal := by
  obtain ⟨hg, hf, hr⟩ := h.phased.limiting (by rcases hs with hs | hs <;> rw [hs] <;> rfl)
  rw [Engine.tell_fall hs hlt]
  have range : ({ e with target := t } : Engine).InRange :=
    { h.inRange with target := hlt.le.trans h.inRange.applied }
  exact range.toHolding.legal (toHolding_phased (Nat.zero_lt_of_lt hlt) hlt.le hg
    (hr (by rcases hs with hs | hs <;> simp [hs])) hf)

theorem Legal.tell (h : e.Legal) (ht : t ≤ 300) : (e.tell now t).Legal := by
  have range : ({ e with target := t } : Engine).InRange := { h.inRange with target := ht }
  cases hl : e.state.limiting
  · rw [tell_of_not_limiting hl]
    refine range.legal ?_
    have hp := h.phased
    rcases (not_limiting_iff _).mp hl with hs | hs | hs <;> simpa only [Phased, hs] using hp
  · rcases lt_or_ge e.applied t with hlt | hle
    · exact h.tell_rise hl ht hlt
    · have hp := h.phased
      rcases (limiting_iff _).mp hl with hs | hs | hs | hs <;> simp only [Phased, hs] at hp
      · rw [tell_opened hs hle]
        refine range.legal ?_
        simp only [Phased, hs]
        exact ⟨hp.1, by omega, hp.2.2⟩
      · rcases hle.eq_or_lt with heq | hlt
        · exact heq ▸ h.tell_reached (.inl hs)
        · exact h.tell_fall (.inl hs) hlt
      · rcases hle.eq_or_lt with heq | hlt
        · rw [tell_holding_equal hs heq]
          refine range.legal ?_
          simp only [Phased, hs]
          exact ⟨hp.1, hle, fun hlt => absurd hlt (by omega), hp.2.2.2⟩
        · exact h.tell_fall (.inr hs) hlt
      · rcases hle.eq_or_lt with heq | hlt
        · exact heq ▸ h.tell_reached (.inr hs)
        · rw [tell_easing hs hlt]
          refine range.legal ?_
          simp only [Phased, hs]
          exact ⟨hlt, hp.2⟩

theorem tell_target (e : Engine) (now t : Nat) : (e.tell now t).target = t := (e.tell_keeps now t).1

theorem tell_granted (e : Engine) (now t : Nat) : (e.tell now t).granted = e.granted :=
  (e.tell_keeps now t).2.2.2.1

/-! ### Permissions (R128 to R131) -/

theorem fadeStepFor_le {a time : Nat} (h : 10 ≤ time) : fadeStepFor a time ≤ 3 := by
  have hdiv : (300 - a + time * 10 - 1) / (time * 10) < 4 :=
    (Nat.div_lt_iff_lt_mul (by omega)).mpr (by omega)
  exact max_le (by omega) (Nat.le_of_lt_succ hdiv)

theorem one_le_fadeStepFor (a time : Nat) : 1 ≤ fadeStepFor a time := le_max_left _ _

/-- A fade begins in an engine whose permission is denied. -/
theorem InRange.startFade (h : e.InRange) (hd : e.granted = false) : (e.startFade st).1.Legal := by
  by_cases hfull : e.applied = 300
  · rw [startFade_full e st hfull]
    exact InRange.legal { h with } ⟨hfull, rfl, hd, rfl, rfl⟩
  · rw [startFade_below e st hfull]
    exact InRange.legal { h with } ⟨lt_of_le_of_ne h.applied hfull, rfl, hd, rfl, _, rfl,
      one_le_fadeStepFor _ _, fadeStepFor_le h.fadeTime.1⟩

theorem startFade_tellings (e : Engine) (st : Stage) :
    (e.startFade st).1.target = e.target ∧ (e.startFade st).1.granted = e.granted := by
  by_cases hfull : e.applied = 300
  · rw [startFade_full e st hfull]; exact ⟨rfl, rfl⟩
  · rw [startFade_below e st hfull]; exact ⟨rfl, rfl⟩

theorem Legal.endFade (h : e.InRange) (hg : e.granted = true) (hr : e.releaseAt = none) : (e.endFade now).Legal := by
  have range : (e.endFade now).InRange := by
    rw [endFade_eq]
    exact { h with }
  refine range.legal ?_
  have restarted : (({ e with fade := none } : Engine).restartHold now).target = e.target := rfl
  unfold Engine.endFade
  dsimp only
  split
  · next hlt => exact ⟨hlt, hg, hr, rfl⟩
  · next hle =>
    have hle : e.target ≤ e.applied := Nat.not_lt.mp hle
    split
    · next h0 => exact ⟨h0, Nat.le_zero.mp (hle.trans_eq h0), hg, hr, rfl⟩
    · next h0 =>
      exact toHolding_phased (e := ({ e with fade := none } : Engine).restartHold now)
        (Nat.pos_of_ne_zero h0) hle hg hr rfl

theorem Legal.unmute (h : e.InRange) (hfull : e.applied = 300) (hg : e.granted = true) (hr : e.releaseAt = none)
    (hf : e.fade = none) : (e.unmute now).Legal := by
  have range : (({ e with due := true } : Engine).restartHold now).InRange := { h with }
  have hpos : 0 < e.applied := by omega
  exact range.toHolding.legal (toHolding_phased (e := ({ e with due := true } : Engine).restartHold now) hpos
    (h.target.trans_eq hfull.symm) hg hr hf)

theorem Legal.permit (h : e.Legal) (g : Bool) {time : Nat} (ht : 10 ≤ time ∧ time ≤ 600) :
    (e.permit now st g time).1.Legal := by
  have range (b : Bool) : ({ e with granted := b, fadeTime := time } : Engine).InRange :=
    { h.inRange with fadeTime := ht }
  have hp := h.phased
  cases hl : e.state.limiting
  · rcases (not_limiting_iff _).mp hl with hs | hs | hs <;> simp only [Phased, hs] at hp
    · have hw : e.permit now st g time = ({ e with granted := g, fadeTime := time }, []) := by
        cases g
        · exact e.permit_denied now st time hl
        · exact e.permit_granted now st time (.inr hs)
      rw [hw]
      refine (range g).legal ?_
      simpa only [Phased, hs] using hp
    · obtain ⟨hlt, hhold, hden, hrel, hfade⟩ := hp
      cases g
      · rw [e.permit_denied now st time hl]
        refine (range false).legal ?_
        simp only [Phased, hs]
        exact ⟨hlt, hhold, trivial, hrel, hfade⟩
      · rw [e.permit_fading now st time hs]
        exact Legal.endFade (range true) rfl hrel
    · obtain ⟨hfull, hhold, hden, hrel, hfade⟩ := hp
      cases g
      · rw [e.permit_denied now st time hl]
        refine (range false).legal ?_
        simp only [Phased, hs]
        exact ⟨hfull, hhold, trivial, hrel, hfade⟩
      · rw [e.permit_silenced now st time hs]
        exact Legal.unmute (range true) hfull rfl hrel hfade
  · cases g
    · rw [e.permit_denied_limiting now st time hl]
      exact (range false).startFade rfl
    · rw [e.permit_granted now st time (.inl hl)]
      refine (range true).legal ?_
      obtain ⟨hg, -⟩ := hp.limiting hl
      rcases (limiting_iff _).mp hl with hs | hs | hs | hs <;> simpa only [Phased, hs, hg] using hp

theorem toHolding_tellings (e : Engine) (now : Nat) :
    (e.toHolding now).target = e.target ∧ (e.toHolding now).granted = e.granted := by
  unfold Engine.toHolding
  split <;> exact ⟨rfl, rfl⟩

theorem permit_tellings (e : Engine) (now : Nat) (st : Stage) (g : Bool) (time : Nat) :
    (e.permit now st g time).1.target = e.target ∧ (e.permit now st g time).1.granted = g := by
  cases hl : e.state.limiting
  · cases g
    · rw [e.permit_denied now st time hl]; exact ⟨rfl, rfl⟩
    · rcases (not_limiting_iff _).mp hl with hs | hs | hs
      · rw [e.permit_granted now st time (.inr hs)]; exact ⟨rfl, rfl⟩
      · rw [e.permit_fading now st time hs, endFade_eq]; exact ⟨rfl, rfl⟩
      · rw [e.permit_silenced now st time hs]; exact toHolding_tellings _ _
  · cases g
    · rw [e.permit_denied_limiting now st time hl]; exact startFade_tellings _ _
    · rw [e.permit_granted now st time (.inl hl)]; exact ⟨rfl, rfl⟩

/-! ### Operations that leave target and permission alone -/

/-- The engine is legal, with the target and the permission it had. -/
def Follows (e e' : Engine) : Prop := e'.Legal ∧ e'.target = e.target ∧ e'.granted = e.granted

theorem Legal.refl (h : e.Legal) : e.Follows e := ⟨h, rfl, rfl⟩

theorem Legal.stepTick (h : e.Legal) (st : Stage) : e.Follows (e.stepTick st).1 := by
  have range := h.inRange
  have hp := h.phased
  by_cases hpull : e.state = .pulling
  · simp only [Phased, hpull] at hp
    obtain ⟨hlt, hg, hr, hf⟩ := hp
    rw [stepTick_pulling hpull range.attack.1 hlt]
    refine ⟨InRange.legal { range with applied := (min_le_left _ _).trans range.target } ?_, rfl, rfl⟩
    by_cases hle : e.target ≤ e.applied + e.attack
    · simp only [Phased, if_pos hle, min_eq_left hle]
      exact ⟨Nat.zero_lt_of_lt hlt, le_rfl, fun h => absurd h (lt_irrefl _), hg, hr, hf⟩
    · simp only [Phased, if_neg hle]
      exact ⟨by omega, hg, hr, hf⟩
  · by_cases hfade : e.state = .fading
    · simp only [Phased, hfade] at hp
      obtain ⟨hlt, hhold, hden, hr, f, hf, h1, h3⟩ := hp
      by_cases hstep : e.applied + f.step < 300
      · rw [stepTick_fading hfade hf h1 hstep]
        refine ⟨InRange.legal { range with applied := hstep.le } ?_, rfl, rfl⟩
        simp only [Phased, hfade]
        exact ⟨hstep, hhold, hden, hr, f, hf, h1, h3⟩
      · rw [stepTick_silencing hfade hf (Nat.not_lt.mp hstep)]
        exact ⟨InRange.legal { range with applied := le_rfl } ⟨rfl, hhold, hden, hr, rfl⟩, rfl, rfl⟩
    · rw [stepTick_resting hpull hfade]
      exact h.refl

theorem Legal.holdExpiry (h : e.Legal) (now : Nat) : e.Follows (e.holdExpiry now) := by
  have hp := h.phased
  by_cases hease : e.state = .holding ∧ e.target < e.applied
  · simp only [Phased, hease.1] at hp
    obtain ⟨-, -, -, hg, -, hf⟩ := hp
    rw [holdExpiry_eases hease]
    exact ⟨InRange.legal { h.inRange with } ⟨hease.2, hg, rfl, hf⟩, rfl, rfl⟩
  · rw [holdExpiry_stops hease]
    refine ⟨InRange.legal { h.inRange with } ?_, rfl, rfl⟩
    unfold Phased at hp ⊢
    cases hs : e.state <;> simp only [hs] at hp ⊢
    case withheld => exact ⟨hp.1, hp.2.1, hp.2.2.1, trivial, hp.2.2.2.2⟩
    case holding => exact ⟨hp.1, hp.2.1, fun hlt => absurd ⟨hs, hlt⟩ hease, hp.2.2.2⟩
    case opened | pulling | easing => exact hp
    case fading | silenced => exact ⟨hp.1, trivial, hp.2.2⟩

theorem Legal.releaseTick (h : e.Legal) (due : Nat) : e.Follows (e.releaseTick due) := by
  by_cases hs : e.state = .easing
  · have hp := h.phased
    simp only [Phased, hs] at hp
    obtain ⟨hlt, hg, -, hf⟩ := hp
    by_cases hstep : e.target + e.release < e.applied
    · rw [releaseTick_lowers hs h.inRange.release.1 hstep]
      refine ⟨InRange.legal { h.inRange with applied := (Nat.sub_le _ _).trans h.inRange.applied } ?_, rfl, rfl⟩
      simp only [Phased, hs]
      exact ⟨by omega, hg, rfl, hf⟩
    · rw [releaseTick_reaches hs hlt (Nat.not_lt.mp hstep)]
      refine ⟨InRange.legal { h.inRange with applied := h.inRange.target } ?_, rfl, rfl⟩
      by_cases h0 : e.target = 0
      · simp only [Phased, h0, if_true]
        exact ⟨trivial, trivial, hg, trivial, hf⟩
      · simp only [Phased, h0, if_false]
        exact ⟨Nat.pos_of_ne_zero h0, le_rfl, fun h => absurd h (lt_irrefl _), hg, trivial, hf⟩
  · have hrest : e.releaseTick due = e := by
      unfold Engine.releaseTick
      cases hs' : e.state <;> simp_all
    rw [hrest]
    exact h.refl

/-- A WITHHELD engine has no order due and no refresh timer running; in any other state neither figure
says anything of the rest. -/
theorem Legal.withOrder (h : e.Legal) {due : Bool} {refresh : Timer}
    (hw : e.state = .withheld → due = false ∧ refresh = none) :
    e.Follows { e with due := due, refreshAt := refresh } := by
  refine ⟨InRange.legal { h.inRange with } ?_, rfl, rfl⟩
  have hp := h.phased
  unfold Phased at hp ⊢
  cases hs : e.state <;> simp only [hs] at hp ⊢
  case withheld =>
    obtain ⟨hdue, hrefresh⟩ := hw hs
    exact ⟨hp.1, hdue, hrefresh, hp.2.2.2⟩
  all_goals exact hp

theorem Legal.withheld_order (h : e.Legal) (hs : e.state = .withheld) : e.due = false ∧ e.refreshAt = none := by
  have hp := h.phased
  simp only [Phased, hs] at hp
  exact ⟨hp.2.1, hp.2.2.1⟩

theorem Legal.refreshed (h : e.Legal) {due : Nat} (hd : e.refreshAt = some due) :
    e.Follows { e with refreshAt := none, due := true } :=
  h.withOrder fun hs => absurd (h.withheld_order hs).2 (by simp [hd])

theorem Legal.chosen (h : e.Legal) : e.Follows e.chosen :=
  h.withOrder (due := false) (refresh := e.refreshAt) fun hs => ⟨rfl, (h.withheld_order hs).2⟩

theorem Legal.sent (h : e.Legal) (now : Nat) (dark : Bool) (o : Order) : e.Follows (e.sent now dark o) :=
  h.withOrder (due := e.due)
    (refresh := if e.state = .withheld then e.refreshAt else some (now + refreshTime dark)) fun hs => by
      rw [if_pos hs]
      exact h.withheld_order hs

theorem Legal.brightenRefresh (h : e.Legal) (now : Nat) : e.Follows (e.brightenRefresh now) :=
  h.withOrder (due := e.due) (refresh := e.refreshAt.map fun t => min t (now + Config.second)) fun hs => by
    obtain ⟨hdue, hrefresh⟩ := h.withheld_order hs
    simp [hdue, hrefresh]

theorem Legal.withRuns (h : e.Legal) {misses matched : Nat} (hm : misses ≤ 5) (hm' : matched ≤ 5)
    (following : Bool) (echo : Option Echo) :
    e.Follows { e with misses := misses, matches_ := matched, notFollowing := following, lastEcho := echo } :=
  ⟨InRange.legal { h.inRange with misses := hm, matched := hm' } h.phased, rfl, rfl⟩

theorem Legal.echo (h : e.Legal) (now : Nat) (st : Stage) (x : Echo) : e.Follows (e.echo now st x).1 := by
  have hmisses := h.inRange.misses
  have hmatched := h.inRange.matched
  cases hl : e.last with
  | none =>
    rw [echo_unsent hl]
    exact h.withRuns hmisses hmatched _ _
  | some last =>
    obtain ⟨r, hr, -⟩ := e.range_spans now hl
    rw [echo_sent hl hr]
    dsimp only
    split
    · exact h.withRuns (Nat.zero_le _) (min_le_left _ _) _ _
    · split
      · exact h.withRuns (min_le_left _ _) (Nat.zero_le _) _ _
      · exact h.withRuns (min_le_left _ _) (Nat.zero_le _) _ _

theorem Legal.takeControl (h : e.Legal) (hs : e.state = .withheld) (now : Nat) (st : Stage) :
    e.Follows (e.takeControl now st).1 := by
  obtain ⟨h0, hhold, hrel, -⟩ := h.of_withheld hs
  have hfade : e.fade = none := by
    have hp := h.phased
    simp only [Phased, hs] at hp
    exact hp.2.2.2.2.2
  cases hg : e.granted
  · rw [takeControl_denied h0 hhold hrel hg]
    refine ⟨InRange.legal { h.inRange with } ⟨h0.trans_lt (by decide), hhold, hg, hrel, _, rfl,
      one_le_fadeStepFor _ _, fadeStepFor_le h.inRange.fadeTime.1⟩, rfl, rfl⟩
  · rw [takeControl_granted hg]
    refine ⟨?_, tell_target _ _ _, (tell_granted _ _ _).trans rfl⟩
    have range : ({ e with state := .opened, due := true } : Engine).InRange := { h.inRange with }
    rcases Nat.eq_zero_or_pos e.target with ht | ht
    · rw [Engine.tell_opened rfl (by omega)]
      exact range.legal ⟨h0, ht, hg, hrel, hfade⟩
    · rw [Engine.tell_rise (e := { e with state := .opened, due := true }) rfl (h0.trans_lt ht)]
      exact InRange.legal { h.inRange with } ⟨h0.trans_lt ht, hg, rfl, hfade⟩

theorem Legal.withRates (h : e.Legal) {attack release hold : Nat} (ha : 1 ≤ attack ∧ attack ≤ 100)
    (hr : 1 ≤ release ∧ release ≤ 50) (hh : hold ≤ 120) :
    e.Follows { e with attack := attack, release := release, hold := hold } :=
  ⟨InRange.legal { h.inRange with attack := ha, release := hr, hold := hh } h.phased, rfl, rfl⟩

/-! ### Restarts -/

/-- An engine that an enforcement restart lets rest on its reduction. -/
theorem Legal.rested (h : e.Legal) (hl : e.state.limiting = true) :
    Engine.Legal { ({ e with target := e.applied } : Engine).restartHold now with
      state := if e.applied = 0 then .opened else .holding, releaseAt := none } := by
  obtain ⟨hg, hf, -⟩ := h.phased.limiting hl
  refine InRange.legal { h.inRange with target := h.inRange.applied } ?_
  by_cases h0 : e.applied = 0
  · simp only [Phased, h0, if_true]
    exact ⟨rfl, rfl, hg, trivial, hf⟩
  · simp only [Phased, h0, if_false]
    exact ⟨Nat.pos_of_ne_zero h0, le_rfl, fun hlt => absurd hlt (lt_irrefl _), hg, trivial, hf⟩

theorem Legal.enforce (h : e.Legal) (now : Nat) :
    (e.enforce now).Legal ∧ (e.enforce now).target = 0 ∧ (e.enforce now).granted = e.granted := by
  unfold Engine.enforce
  dsimp only
  split
  · next hl => exact ⟨(h.rested hl).tell (Nat.zero_le _), tell_target _ _ _, tell_granted _ _ _⟩
  · exact ⟨h.tell (Nat.zero_le _), tell_target _ _ _, tell_granted _ _ _⟩

theorem reset_inRange : Engine.reset.InRange :=
  ⟨by decide, by decide, by decide, by decide, by decide, by decide, by decide, by decide⟩

theorem startEngine_legal (mode : Fin 4) (stepAt : Nat) :
    (startEngine mode stepAt).Legal ∧ (startEngine mode stepAt).target = 0 ∧
      (startEngine mode stepAt).granted = true := by
  have range : ∀ (x : EngineState) (due : Bool),
      ({ Engine.reset with stepAt := stepAt, state := x, due := due } : Engine).InRange := fun x due => { reset_inRange with }
  unfold startEngine
  split
  · exact ⟨(range .opened true).legal ⟨rfl, rfl, rfl, rfl, rfl⟩, rfl, rfl⟩
  · exact ⟨(range .withheld false).legal ⟨rfl, rfl, rfl, rfl, rfl, rfl⟩, rfl, rfl⟩

end Engine

end Sys2Proof.Machine

/-! Legal schedules (R77, R81, R85): what the walk, the phases and the events keep. -/

namespace Sys2Proof.Machine

/-! ### The schedule's invariant between its phases -/

/-- The schedule is legal but for periods in force that have lost every subject. -/
structure Schedule.Named (x : Schedule) : Prop where
  zones : ∀ (z : Zone) i, x.zoneHolder[z] = some i → (x.period i).state = .inForce ∧ (x.period i).zones.getLsb z = true
  stages : ∀ (st : Stage) i, x.stageHolder[st] = some i →
    (x.period i).state = .inForce ∧ (x.period i).stages.getLsb st = true
  pending : ∀ i, (x.period i).state = .pending → i = x.walk
  settings : x.SettingsLegal

/-- A period in force holds a subject (R92). -/
def Schedule.Holds (x : Schedule) : Prop :=
  ∀ i, (x.period i).state = .inForce →
    (∃ z : Zone, x.zoneHolder[z] = some i) ∨ ∃ st : Stage, x.stageHolder[st] = some i

theorem Schedule.legal_iff (x : Schedule) : x.Legal ↔ x.Named ∧ x.Holds :=
  ⟨fun ⟨⟨hz, hs, hh, hp⟩, hset⟩ => ⟨⟨hz, hs, hp, hset⟩, hh⟩, fun ⟨⟨hz, hs, hp, hset⟩, hh⟩ => ⟨⟨hz, hs, hh, hp⟩, hset⟩⟩

/-- The settings of a period that is not EMPTY lie in their ranges (R76). -/
def Period.InRange (p : Period) : Prop := p.state ≠ .empty → 10 ≤ p.fade ∧ p.fade ≤ 600 ∧ p.margin ≤ 100

theorem Schedule.SettingsLegal.period {x : Schedule} (h : x.SettingsLegal) (i : SlotIx) : (x.period i).InRange :=
  h.1 i

/-- Settings stay legal when the periods do and the rest stands. -/
theorem Schedule.SettingsLegal.of_periods {x y : Schedule} (h : x.SettingsLegal) (hp : ∀ i, (y.period i).InRange)
    (hf : y.fallback = x.fallback) (ht : y.tickAt = x.tickAt) (hset : y.clockSet = x.clockSet)
    (hc : y.clock = x.clock) : y.SettingsLegal := by
  obtain ⟨-, hfall, htick, hclock⟩ := h
  refine ⟨hp, ?_, ?_, ?_⟩
  · rw [hf]; exact hfall
  · rw [ht, hset]; exact htick
  · rw [hc]; exact hclock

section
variable {l l' : Ledger}

/-! ### Retirement -/

theorem Period.InRange.retire {p : Period} (h : p.InRange) (hs : p.state ≠ .empty) (o : PeriodOutcome) :
    (p.retire o).InRange := fun _ => h hs

theorem Ledger.retire_named (h : l.sched.Named) {i : SlotIx} (hi : (l.sched.period i).state ≠ .empty)
    (o : PeriodOutcome) : (l.retire i o).sched.Named := by
  have others {j : SlotIx} (hj : j ≠ i) := l.period_retire_of_ne i o hj
  refine ⟨fun z j hz => ?_, fun st j hst => ?_, fun j hj => ?_,
    h.settings.of_periods (fun j => ?_) rfl rfl rfl rfl⟩
  · rw [Ledger.zoneHolder_retire] at hz
    split at hz
    · cases hz
    · next hne => rw [others fun hj => hne (hj ▸ hz)]; exact h.zones z j hz
  · rw [Ledger.stageHolder_retire] at hst
    split at hst
    · cases hst
    · next hne => rw [others fun hj => hne (hj ▸ hst)]; exact h.stages st j hst
  · by_cases hji : j = i
    · rw [hji, Ledger.period_retire_self] at hj
      cases hj
    · exact h.pending j (others hji ▸ hj)
  · by_cases hji : j = i
    · rw [hji, Ledger.period_retire_self]
      exact (h.settings.period i).retire hi o
    · rw [others hji]
      exact h.settings.period j

/-- Moving the walk from a period that is not PENDING. -/
theorem Ledger.advance_named (h : l.sched.Named) (hw : (l.sched.period l.sched.walk).state ≠ .pending) :
    l.advance.sched.Named :=
  ⟨h.zones, h.stages, fun i hi => absurd (h.pending i hi ▸ hi) hw,
    h.settings.of_periods (fun i => h.settings.period i) rfl rfl rfl rfl⟩

/-! ### The walk -/

/-- Rewriting the fields of a period at the walk position that no holder looks at. -/
theorem Schedule.Named.setAtWalk {x : Schedule} (h : x.Named) {p : Period}
    (hfree : (x.period x.walk).state ≠ .inForce) (hp : p.InRange) : (x.setPeriod x.walk p).Named := by
  have others {j : SlotIx} (hj : j ≠ x.walk) := x.period_setPeriod_of_ne x.walk p hj
  refine ⟨fun z j hz => ?_, fun st j hst => ?_, fun j hj => ?_,
    h.settings.of_periods (fun j => ?_) rfl rfl rfl rfl⟩
  · obtain ⟨hforce, hmask⟩ := h.zones z j hz
    rw [others fun hj => hfree (hj ▸ hforce)]
    exact ⟨hforce, hmask⟩
  · obtain ⟨hforce, hmask⟩ := h.stages st j hst
    rw [others fun hj => hfree (hj ▸ hforce)]
    exact ⟨hforce, hmask⟩
  · by_contra hne
    exact hne (h.pending j (others hne ▸ hj))
  · rw [Schedule.period_setPeriod]
    split
    · exact hp
    · exact h.settings.period j

theorem Ledger.zoneHolder_force (l : Ledger) (z : Zone) : l.force.sched.zoneHolder[z] =
    if l.current.zones.getLsb z then some l.sched.walk else l.sched.zoneHolder[z] := by
  simp only [Ledger.force, Ledger.takeForce, Schedule.period_setPeriod_self, Schedule.take, Fin.getElem_fin,
    Vector.getElem_ofFn]
  rfl

theorem Ledger.stageHolder_force (l : Ledger) (st : Stage) : l.force.sched.stageHolder[st] =
    if l.current.stages.getLsb st then some l.sched.walk else l.sched.stageHolder[st] := by
  simp only [Ledger.force, Ledger.takeForce, Schedule.period_setPeriod_self, Schedule.take, Fin.getElem_fin,
    Vector.getElem_ofFn]
  rfl

theorem Ledger.force_named (h : l.sched.Named) (hne : l.current.state ≠ .empty) : l.force.sched.Named := by
  have others {j : SlotIx} (hj : j ≠ l.sched.walk) := l.period_force_of_ne hj
  refine ⟨fun z j hz => ?_, fun st j hst => ?_, fun j hj => ?_,
    h.settings.of_periods (fun j => ?_) rfl rfl rfl rfl⟩
  · by_cases hj : j = l.sched.walk
    · rw [hj, Ledger.period_force_self]
      refine ⟨rfl, ?_⟩
      rw [Ledger.zoneHolder_force] at hz
      split at hz
      · assumption
      · exact (h.zones z _ (hj ▸ hz)).2
    · rw [Ledger.zoneHolder_force] at hz
      split at hz
      · exact absurd (Option.some.inj hz).symm hj
      · rw [others hj]; exact h.zones z j hz
  · by_cases hj : j = l.sched.walk
    · rw [hj, Ledger.period_force_self]
      refine ⟨rfl, ?_⟩
      rw [Ledger.stageHolder_force] at hst
      split at hst
      · assumption
      · exact (h.stages st _ (hj ▸ hst)).2
    · rw [Ledger.stageHolder_force] at hst
      split at hst
      · exact absurd (Option.some.inj hst).symm hj
      · rw [others hj]; exact h.stages st j hst
  · by_contra hne
    exact hne (h.pending j (others hne ▸ hj))
  · by_cases hj : j = l.sched.walk
    · rw [hj, Ledger.period_force_self]
      exact fun _ => h.settings.period _ hne
    · rw [others hj]
      exact h.settings.period j

theorem Ledger.Resolves.named (hr : l.Resolves l') (h : l.sched.Named) : l'.advance.sched.Named := by
  have hne : l.current.state ≠ .empty := by
    rcases PeriodState.awaits_iff.mp hr.awaits with hs | hs <;> simp [hs]
  have hl' : l'.sched.Named := by
    cases hr with
    | reject | skip => exact Ledger.retire_named h hne _
    | force => exact Ledger.force_named h hne
  refine Ledger.advance_named hl' ?_
  rw [hr.walk]
  exact (PeriodState.not_awaits_iff.mp hr.resolved).2

theorem Ledger.stall_named (h : l.sched.Named) : l.stall.sched.Named := by
  rw [Ledger.stall_sched]
  exact ⟨h.zones, h.stages, h.pending, h.settings.of_periods (fun i => h.settings.period i) rfl rfl rfl rfl⟩

theorem Ledger.keepPending_named (h : l.sched.Named) (hs : l.current.state.awaits = true) :
    l.keepPending.sched.Named := by
  have hne : l.current.state ≠ .empty ∧ l.current.state ≠ .inForce := by
    rcases PeriodState.awaits_iff.mp hs with hs | hs <;> simp [hs]
  exact h.setAtWalk hne.2 fun _ => h.settings.period _ hne.1

theorem Ledger.verdict_stall_iff : l.verdict = .stall ↔ l.current.state.awaits = false := Period.verdict_stall_iff

theorem Ledger.walk_named (h : l.sched.Named) : l.walk.sched.Named := by
  induction l using Ledger.walk_induct with
  | stall l hv => rw [Ledger.walk_stall hv]; exact Ledger.stall_named h
  | wait l hv =>
    rw [Ledger.walk_wait hv]
    refine Ledger.keepPending_named h ?_
    rw [← Bool.not_eq_false, ← Ledger.verdict_stall_iff, hv]
    decide
  | resolve l l' hr ih => rw [hr.walk_eq]; exact ih (hr.named h)

/-! ### The phases of an event -/

theorem Ledger.retireWhere_named (h : l.sched.Named) (o : PeriodOutcome) (cond : Schedule → SlotIx → Bool) :
    (l.retireWhere o cond).sched.Named :=
  foldl_keeps (P := fun l : Ledger => l.sched.Named) (fun l i hl => by
    split
    · next hi => exact Ledger.retire_named hl (by simp [hi.1]) o
    · exact hl) _ h

theorem Ledger.period_phase (l : Ledger) (o : PeriodOutcome) (goes : SlotIx → Bool) (slots : List SlotIx)
    (i : SlotIx) :
    (l.phase o goes slots).sched.period i = if goes i then (l.sched.period i).retire o else l.sched.period i := by
  simp [Ledger.phase, Schedule.period]

theorem Ledger.zoneHolder_phase (l : Ledger) (o : PeriodOutcome) (goes : SlotIx → Bool) (slots : List SlotIx)
    (z : Zone) : (l.phase o goes slots).sched.zoneHolder[z] = l.sched.zoneHolder[z].filter (!goes ·) := by
  simp [Ledger.phase]

theorem Ledger.stageHolder_phase (l : Ledger) (o : PeriodOutcome) (goes : SlotIx → Bool) (slots : List SlotIx)
    (st : Stage) : (l.phase o goes slots).sched.stageHolder[st] = l.sched.stageHolder[st].filter (!goes ·) := by
  simp [Ledger.phase]

/-- After the cut-short phase every period in force holds a subject. -/
theorem Ledger.cutShort_holds (l : Ledger) : l.cutShort.sched.Holds := by
  intro i hi
  rw [Ledger.cutShort_eq] at hi ⊢
  rw [Ledger.period_phase] at hi
  split at hi
  · cases hi
  · next hstays =>
    simp only [Ledger.zoneHolder_phase, Ledger.stageHolder_phase]
    have kept := Bool.eq_false_iff.mpr hstays
    have held : (∃ z : Zone, l.sched.zoneHolder[z] = some i) ∨ ∃ st : Stage, l.sched.stageHolder[st] = some i := by
      by_contra hnone
      obtain ⟨hz, hst⟩ := not_or.mp hnone
      exact hstays (decide_eq_true ⟨hi, not_exists.mp hz, not_exists.mp hst⟩)
    rcases held with ⟨z, hz⟩ | ⟨st, hst⟩
    · exact .inl ⟨z, by rw [hz, Option.filter_some, if_pos (Bool.not_eq_true' _ ▸ kept)]⟩
    · exact .inr ⟨st, by rw [hst, Option.filter_some, if_pos (Bool.not_eq_true' _ ▸ kept)]⟩

theorem Ledger.cutShort_legal (h : l.sched.Named) : l.cutShort.sched.Legal :=
  (Schedule.legal_iff _).mpr ⟨Ledger.retireWhere_named h _ _, l.cutShort_holds⟩

end

end Sys2Proof.Machine

/-! The path from limits and needs to the gain engines stays legal through every step (R84, R102, R123). -/

namespace Sys2Proof.Machine

/-! ### The control block -/

/-- The two tables of the control block are legal; the targets are the row maxima besides (R101, R109). -/
def Control.TablesLegal (c : Control) : Prop :=
  ∀ st p, c.needAt st p ≤ 300 ∧ (c.couplingAt st p = none → c.needAt st p = 0) ∧
    ∀ a, c.couplingAt st p = some a → a ≤ 900

theorem Control.legal_iff (c : Control) :
    c.Legal ↔ c.TablesLegal ∧ ∀ st : Stage, c.targets[st] = rowMax c.needs[st] := by
  refine ⟨fun h => ⟨fun st p => ?_, fun st => ?_⟩, fun ⟨ht, hmax⟩ st => ⟨fun p => ?_, ?_⟩⟩
  · obtain ⟨hp, -⟩ := h st
    obtain ⟨hle, -, hnone, hsome⟩ := hp p
    exact ⟨hle, hnone, hsome⟩
  · obtain ⟨hp, q, hq⟩ := h st
    obtain ⟨m, hm⟩ := exists_rowMax c.needs[st]
    refine le_antisymm ?_ ?_
    · rw [← hq]
      exact le_rowMax c.needs[st] q
    · rw [← hm]
      exact (hp m).2.1
  · obtain ⟨hle, hnone, hsome⟩ := ht st p
    exact ⟨hle, hmax st ▸ le_rowMax c.needs[st] p, hnone, hsome⟩
  · rw [hmax st]
    exact exists_rowMax c.needs[st]

theorem Control.TablesLegal.rowMax_le {c : Control} (h : c.TablesLegal) (st : Stage) : rowMax c.needs[st] ≤ 300 := by
  obtain ⟨p, hp⟩ := exists_rowMax c.needs[st]
  exact hp ▸ (h st p).1

/-- One entry of a table of the control block rewritten. -/
theorem getElem_setEntry {α : Type} (m : Vector (Vector α 16) 4) (st st' : Stage) (p q : SetIx) (v : α) :
    ((m.set st ((m[st]).set p v))[st'])[q] = if st' = st ∧ q = p then v else (m[st'])[q] := by
  simp only [Fin.getElem_fin, Vector.getElem_set]
  by_cases hst : st' = st
  · subst hst
    by_cases hq : q = p
    · simp [hq]
    · have hval : p.val ≠ q.val := fun h => hq (Fin.ext h.symm)
      simp [hq, hval]
  · have hval : st.val ≠ st'.val := fun h => hst (Fin.ext h.symm)
    simp [hst, hval]

section
variable (c : Control) (st st' : Stage) (p q : SetIx)

theorem Control.couplingAt_setCoupling (v : Option Nat) :
    (c.setCoupling st p v).couplingAt st' q = if st' = st ∧ q = p then v else c.couplingAt st' q :=
  getElem_setEntry c.coupling st st' p q v

theorem Control.needAt_setNeed (n : Nat) :
    (c.setNeed st p n).needAt st' q = if st' = st ∧ q = p then n else c.needAt st' q :=
  getElem_setEntry c.needs st st' p q n

theorem Control.couplingAt_setNeed (n : Nat) : (c.setNeed st p n).couplingAt st' q = c.couplingAt st' q := rfl

theorem Control.needAt_setCoupling (v : Option Nat) : (c.setCoupling st p v).needAt st' q = c.needAt st' q := rfl

end

/-- A column rewritten within 0..300, and left at 0 where the stage is uncoupled. -/
theorem Control.TablesLegal.mapColumn {c : Control} (h : c.TablesLegal) (p : SetIx) {f : Stage → Nat → Nat}
    (hle : ∀ st n, n ≤ 300 → f st n ≤ 300) (hz : ∀ st, c.couplingAt st p = none → f st 0 = 0) :
    (c.mapColumn p f).TablesLegal := by
  intro st q
  obtain ⟨hn, hnone, hsome⟩ := h st q
  rw [Control.needAt_mapColumn]
  split
  · next hq =>
    subst hq
    refine ⟨hle st _ hn, fun hc => ?_, hsome⟩
    rw [hnone hc]
    exact hz st hc
  · exact ⟨hn, hnone, hsome⟩

namespace State

variable {s t : State}

/-! ### Engines with the target and the permission they had -/

theorem GainLegal.engine (h : s.GainLegal) (st : Stage) : (s.engine st).Legal := (h.2.2 st).1

/-- The engines changed, each legal with its target and its permission. -/
theorem GainLegal.follow (h : s.GainLegal) (hs : t.sched = s.sched) (hc : t.control = s.control)
    (he : ∀ st, (s.engine st).Follows (t.engine st)) : t.GainLegal := by
  obtain ⟨hsched, hcontrol, hengines⟩ := h
  refine ⟨hs ▸ hsched, hc ▸ hcontrol, fun st => ?_⟩
  obtain ⟨hl, htarget, hgranted⟩ := he st
  obtain ⟨-, htarget', hgranted'⟩ := hengines st
  exact ⟨hl, by rw [htarget, htarget', hc], by rw [hgranted, hgranted', hs]⟩

/-- The schedule, the engines and the control block but for its freeze states are the same. -/
structure SameGain (s t : State) : Prop where
  sched : t.sched = s.sched
  engines : t.engines = s.engines
  coupling : t.control.coupling = s.control.coupling
  needs : t.control.needs = s.control.needs
  targets : t.control.targets = s.control.targets

theorem SameGain.of_eq (hs : t.sched = s.sched) (hc : t.control = s.control) (he : t.engines = s.engines) :
    SameGain s t := ⟨hs, he, by rw [hc], by rw [hc], by rw [hc]⟩

theorem SameGain.trans {u : State} (h : SameGain s t) (h' : SameGain t u) : SameGain s u :=
  ⟨h'.sched.trans h.sched, h'.engines.trans h.engines, h'.coupling.trans h.coupling, h'.needs.trans h.needs,
    h'.targets.trans h.targets⟩

theorem GainLegal.same (h : s.GainLegal) (k : SameGain s t) : t.GainLegal := by
  obtain ⟨hsched, hcontrol, hengines⟩ := h
  refine ⟨k.sched ▸ hsched, fun st => ?_, fun st => ?_⟩
  · have hst := hcontrol st
    unfold Control.needAt Control.couplingAt at hst ⊢
    rw [k.needs, k.coupling, k.targets]
    exact hst
  · have hst := hengines st
    unfold State.engine at hst ⊢
    rw [k.engines, k.targets, k.sched]
    exact hst

theorem GainLegal.of_eq (h : s.GainLegal) (hs : t.sched = s.sched) (hc : t.control = s.control)
    (he : t.engines = s.engines) : t.GainLegal := h.same (.of_eq hs hc he)

/-- One engine changed, legal with its target and its permission. -/
theorem GainLegal.putEngine (h : s.GainLegal) (st : Stage) {e : Engine} (he : (s.engine st).Follows e) :
    (s.putEngine st e).GainLegal := by
  refine h.follow rfl rfl fun st' => ?_
  rw [engine_putEngine]
  split
  · next hst => exact hst ▸ he
  · exact (h.engine st').refl

theorem GainLegal.withEngine (h : s.GainLegal) (st : Stage) {r : Engine × List Notice}
    (he : (s.engine st).Follows r.1) : (s.withEngine st r).GainLegal :=
  (h.putEngine st he).of_eq rfl rfl rfl

theorem GainLegal.reach (h : s.GainLegal) (n : Nat) : (s.reach n).GainLegal := h.of_eq rfl rfl rfl

/-! ### Control block events (R102) -/

theorem retold_follows (h : (s.engine st).Legal) (ht : (s.engine st).target = s.control.targets[st])
    (hmax : rowMax s.control.needs[st] ≤ 300) :
    (s.retold st).Legal ∧ (s.retold st).target = rowMax s.control.needs[st] ∧
      (s.retold st).granted = (s.engine st).granted := by
  unfold State.retold
  split
  · next heq => exact ⟨h, ht.trans heq.symm, rfl⟩
  · exact ⟨h.tell hmax, Engine.tell_target _ _ _, Engine.tell_granted _ _ _⟩

theorem GainLegal.controlEvent (h : s.GainLegal) {c : Control} (hc : c.TablesLegal)
    (ht : c.targets = s.control.targets) : (s.controlEvent c).GainLegal := by
  obtain ⟨hsched, -, hengines⟩ := h
  have htarget (st : Stage) : (s.controlEvent c).control.targets[st] = rowMax c.needs[st] := by
    rw [State.controlEvent, retarget_target]
  have hengine (st : Stage) : (s.controlEvent c).engine st = ({ s with control := c } : State).retold st := by
    rw [State.controlEvent, engine_retarget]
  refine ⟨(s.controlEvent_sched c).symm ▸ hsched, (Control.legal_iff _).mpr ⟨fun st p => ?_, fun st => ?_⟩,
    fun st => ?_⟩
  · have hst := hc st p
    unfold Control.needAt Control.couplingAt at hst ⊢
    rw [controlEvent_needs, controlEvent_coupling]
    exact hst
  · rw [controlEvent_needs, htarget]
  · obtain ⟨hl, htold, hgranted⟩ := hengines st
    obtain ⟨hl', htold', hgranted'⟩ := retold_follows (s := { s with control := c }) (st := st) hl
      (htold.trans (by rw [ht])) (hc.rowMax_le st)
    rw [hengine, htarget, controlEvent_sched]
    exact ⟨hl', htold', hgranted'.trans hgranted⟩

theorem GainLegal.tables (h : s.GainLegal) : s.control.TablesLegal := ((Control.legal_iff _).mp h.2.1).1

theorem coupled_of_attributed {p : SetIx} {st : Stage} (h : s.attributed p st = true) :
    s.control.couplingAt st p ≠ none := by
  intro hnone
  have hc : s.contribution p st = none := by simp only [State.contribution, hnone]
  have hcoupled : s.control.coupled st p = false := by simp [Control.coupled, hnone]
  unfold State.attributed at h
  split at h
  · simp [hcoupled] at h
  · simp [hc] at h

theorem GainLegal.evaluate (h : s.GainLegal) (p : SetIx) (own : Bool) (margin x : Nat) (v : Option Int) :
    (s.evaluate p own margin x v).GainLegal := by
  unfold State.evaluate
  split
  · split
    · exact h
    · exact h.of_eq rfl rfl rfl
  · split
    · split
      · split
        · exact h.controlEvent (h.tables.mapColumn p (fun _ n hn => (Nat.sub_le n 10).trans hn)
            fun _ _ => Nat.zero_sub 10) rfl
        · exact h
      · exact h
    · refine h.controlEvent (h.tables.mapColumn p (fun st n hn => ?_) fun st hnone => ?_) rfl
      · split
        · exact min_le_left _ _
        · exact hn
      · rw [if_neg fun ha => coupled_of_attributed ha hnone]

theorem GainLegal.freezeExpiry (h : s.GainLegal) (p : SetIx) : (s.freezeExpiry p).GainLegal := by
  cases hf : s.control.freeze[p] with
  | active => rw [freezeExpiry_stopped (.inl hf)]; exact h
  | precaution => rw [freezeExpiry_stopped (.inr hf)]; exact h
  | frozen due =>
    rw [freezeExpiry_frozen hf]
    have hp : (s.control.precaution p).TablesLegal := by
      refine Control.TablesLegal.mapColumn (c := s.control.setFreeze p .precaution) h.tables p
        (fun st n hn => ?_) fun st hnone => ?_
      · split
        · exact max_le hn (by decide)
        · exact hn
      · exact if_neg (by simp [Control.coupled, show s.control.couplingAt st p = none from hnone])
    exact (h.reach due).controlEvent hp rfl

theorem GainLegal.clearColumn (h : s.GainLegal) (p : SetIx) : (s.clearColumn p).GainLegal := by
  have hz := h.tables.mapColumn p (f := fun _ _ => 0) (fun _ _ _ => Nat.zero_le _) fun _ _ => rfl
  rw [clearColumn_eq]
  refine h.controlEvent (fun st q => ?_) rfl
  obtain ⟨hle, hnone, hsome⟩ := hz st q
  refine ⟨hle, fun hc => ?_, fun a ha => ?_⟩
  · rw [Control.cleared_couplingAt] at hc
    split at hc
    · next hq =>
      have := s.control.needAt_mapColumn p (fun _ _ => 0) st q
      rw [if_pos hq] at this
      exact this
    · exact hnone hc
  · rw [Control.cleared_couplingAt] at ha
    split at ha
    · cases ha
    · exact hsome a ha

theorem attenuation_le {n a : Nat} (h : attenuation n = some a) : a ≤ 900 := by
  unfold attenuation at h
  split at h
  · cases h
  · cases h; exact min_le_left _ _

theorem GainLegal.couple (h : s.GainLegal) (st : Stage) (p : SetIx) {v : Option Nat}
    (hv : ∀ a, v = some a → a ≤ 900) : (s.couple st p v).GainLegal := by
  rw [State.couple]
  refine h.controlEvent (fun st' q => ?_) rfl
  obtain ⟨hle, hnone, hsome⟩ := h.tables st' q
  rw [Control.needAt_setNeed, Control.couplingAt_setNeed, Control.couplingAt_setCoupling,
    Control.needAt_setCoupling, needAfterCoupling_eq]
  by_cases hq : st' = st ∧ q = p
  · obtain ⟨rfl, rfl⟩ := hq
    simp only [and_self, if_true]
    refine ⟨?_, fun hv0 => ?_, hv⟩
    · split_ifs
      · exact Nat.zero_le _
      · exact max_le hle (by decide)
      · exact hle
    · split_ifs with hclear hraise
      · rfl
      · exact absurd hv0 hraise.1
      · exact hnone (Decidable.not_not.mp fun hold => hclear ⟨hv0, hold⟩)
  · simp only [if_neg hq]
    exact ⟨hle, hnone, hsome⟩

/-! ### Schedule events (R84, R94) -/

theorem fadeTime_range {x : Schedule} (h : x.Named) (st : Stage) : 10 ≤ x.fadeTime st ∧ x.fadeTime st ≤ 600 := by
  cases hh : x.stageHolder[st] with
  | none =>
    rw [(Schedule.permission_fallback hh).2]
    obtain ⟨-, ⟨-, -, -, -, -, -, -, -, hlo, hhi, -⟩, -⟩ := h.settings
    exact ⟨hlo, hhi⟩
  | some i =>
    rw [(Schedule.permission_held hh).2]
    obtain ⟨hlo, hhi, -⟩ := h.settings.period i (by simp [(h.stages st i hh).1])
    exact ⟨hlo, hhi⟩

theorem permitted_tellings {before : Schedule} {st : Stage} (h : (s.engine st).Legal)
    (hg : (s.engine st).granted = before.permission st)
    (ht : 10 ≤ s.sched.fadeTime st ∧ s.sched.fadeTime st ≤ 600) :
    (s.permitted before st).1.Legal ∧ (s.permitted before st).1.target = (s.engine st).target ∧
      (s.permitted before st).1.granted = s.sched.permission st := by
  unfold State.permitted
  split
  · next heq => exact ⟨h, rfl, hg.trans heq.symm⟩
  · obtain ⟨htarget, hgranted⟩ := Engine.permit_tellings (s.engine st) s.now st (s.sched.permission st)
      (s.sched.fadeTime st)
    exact ⟨h.permit _ ht, htarget, hgranted⟩

/-- An event whose phases leave a legal schedule. -/
theorem GainLegal.schedEvent (h : s.GainLegal) {f : Ledger → Ledger}
    (hf : (f { sched := s.sched, reports := s.reports }).sched.Legal) : (s.schedEvent f).GainLegal := by
  obtain ⟨-, hcontrol, hengines⟩ := h
  rw [State.schedEvent]
  generalize hl : f { sched := s.sched, reports := s.reports } = l at hf
  have hnamed := ((Schedule.legal_iff _).mp hf).1
  refine ⟨?_, ?_, fun st => ?_⟩
  · rw [permissionClose_eq]
    exact hf
  · rw [permissionClose_eq]
    exact hcontrol
  · obtain ⟨hlegal, htarget, hgranted⟩ := hengines st
    obtain ⟨hlegal', htarget', hgranted'⟩ := permitted_tellings
      (s := { s with sched := l.sched, reports := l.reports }) (before := s.sched) hlegal hgranted
      (fadeTime_range hnamed st)
    rw [engine_permissionClose]
    refine ⟨hlegal', ?_, ?_⟩
    · rw [htarget', permissionClose_eq]
      exact htarget
    · rw [hgranted', permissionClose_eq]

theorem GainLegal.named (h : s.GainLegal) : s.sched.Named := ((Schedule.legal_iff _).mp h.1).1

end State

end Sys2Proof.Machine

/-! Every command keeps the path from limits and needs to the gain engines legal. -/

namespace Sys2Proof.Machine

/-! ### Schedules that say the same of holders and permissions -/

/-- The periods say the same of state, subjects, permits and settings, and the rest of the schedule but
for the clock stands. -/
structure Schedule.Reworded (x y : Schedule) : Prop where
  state : ∀ i, (y.period i).state = (x.period i).state
  zones : ∀ i, (y.period i).zones = (x.period i).zones
  stages : ∀ i, (y.period i).stages = (x.period i).stages
  permits : ∀ i, (y.period i).permits = (x.period i).permits
  fade : ∀ i, (y.period i).fade = (x.period i).fade
  margin : ∀ i, (y.period i).margin = (x.period i).margin
  zoneHolder : y.zoneHolder = x.zoneHolder
  stageHolder : y.stageHolder = x.stageHolder
  walk : y.walk = x.walk
  fallback : y.fallback = x.fallback

section
variable {x y : Schedule}

theorem Schedule.Reworded.permission (r : x.Reworded y) (st : Stage) : y.permission st = x.permission st := by
  unfold Schedule.permission
  rw [r.stageHolder, r.fallback]
  split
  · rw [r.permits]
  · rfl

theorem Schedule.Legal.reworded (h : x.Legal) (r : x.Reworded y) (htick : y.tickAt.isSome = y.clockSet)
    (hclock : y.clock ≤ Config.max32) : y.Legal := by
  obtain ⟨⟨hz, hs, hh, hp⟩, hperiods, hfall, -, -⟩ := h
  refine ⟨⟨fun z i hzi => ?_, fun st i hsi => ?_, fun i hi => ?_, fun i hi => ?_⟩, fun i hi => ?_, ?_, htick, hclock⟩
  · rw [r.zoneHolder] at hzi
    rw [r.state, r.zones]
    exact hz z i hzi
  · rw [r.stageHolder] at hsi
    rw [r.state, r.stages]
    exact hs st i hsi
  · rw [r.zoneHolder, r.stageHolder]
    exact hh i (r.state i ▸ hi)
  · rw [r.walk]
    exact hp i (r.state i ▸ hi)
  · rw [r.fade, r.margin]
    exact hperiods i (r.state i ▸ hi)
  · rw [r.fallback]
    exact hfall

/-- A period rewritten in its start or its running figures alone. -/
theorem Schedule.reworded_of_periods {f : SlotIx → Period}
    (hf : ∀ i, ∃ start exceed worst, f i = { x.period i with start := start, exceed := exceed, worst := worst })
    (hy : ∀ i, y.period i = f i) (hz : y.zoneHolder = x.zoneHolder) (hs : y.stageHolder = x.stageHolder)
    (hw : y.walk = x.walk) (hfall : y.fallback = x.fallback) : x.Reworded y := by
  have fields (i : SlotIx) : ∃ start exceed worst,
      y.period i = { x.period i with start := start, exceed := exceed, worst := worst } := by
    obtain ⟨start, exceed, worst, h⟩ := hf i
    exact ⟨start, exceed, worst, (hy i).trans h⟩
  refine ⟨fun i => ?_, fun i => ?_, fun i => ?_, fun i => ?_, fun i => ?_, fun i => ?_, hz, hs, hw, hfall⟩
  all_goals
    obtain ⟨_, _, _, h⟩ := fields i
    rw [h]

theorem Schedule.score_reworded (x : Schedule) (z : Zone) (b : Bool) (h : Option Int) : x.Reworded (x.score z b h) := by
  unfold Schedule.score
  split
  · exact reworded_of_periods (fun i => ⟨_, _, _, rfl⟩) (fun i => rfl) rfl rfl rfl rfl
  · next j _ =>
    refine reworded_of_periods (f := fun i => ((x.setPeriod j _).period i)) (fun i => ?_) (fun i => rfl) rfl rfl rfl rfl
    rw [Schedule.period_setPeriod]
    split
    · next hi => subst hi; exact ⟨_, _, _, rfl⟩
    · exact ⟨_, _, _, rfl⟩

end

namespace State

variable {s t : State}

/-- The schedule reworded, the rest of the path as it was. -/
theorem GainLegal.reword (h : s.GainLegal) {y : Schedule} (r : s.sched.Reworded y)
    (htick : y.tickAt.isSome = y.clockSet) (hclock : y.clock ≤ Config.max32) (hs : t.sched = y)
    (hc : t.control = s.control) (he : t.engines = s.engines) : t.GainLegal := by
  obtain ⟨hsched, hcontrol, hengines⟩ := h
  refine ⟨hs ▸ hsched.reworded r htick hclock, hc ▸ hcontrol, fun st => ?_⟩
  obtain ⟨hl, htarget, hgranted⟩ := hengines st
  unfold State.engine at hl htarget hgranted ⊢
  rw [he, hc, hs, r.permission]
  exact ⟨hl, htarget, hgranted⟩

/-! ### The schedule's events -/

theorem GainLegal.clockTick (h : s.GainLegal) : s.clockTick.GainLegal := by
  cases ht : s.sched.tickAt with
  | none => rw [clockTick_stopped ht]; exact h
  | some due =>
    rw [clockTick_due ht]
    refine (h.reach due).schedEvent (Ledger.cutShort_legal (Ledger.walk_named (Ledger.retireWhere_named ?_ _ _)))
    obtain ⟨hz, hs, hp, hperiods, hfall, htick, -⟩ := h.named
    refine ⟨hz, hs, hp, hperiods, hfall, ?_, min_le_right _ _⟩
    have hset : true = s.sched.clockSet := by rw [← htick, ht, Option.isSome_some]
    exact hset

/-- A post to a slot that the console owns. -/
theorem post_named {x : Schedule} (h : x.Named) {i : SlotIx} {p : Period}
    (hi : (x.period i).state = .empty ∨ (x.period i).state = .retired) (hs : p.state = .waiting) (hp : p.InRange) :
    (x.post i p).Named := by
  have hfree : (x.period i).state ≠ .inForce := by rcases hi with hi | hi <;> simp [hi]
  have others {j : SlotIx} (hj : j ≠ i) : (x.post i p).period j = x.period j := x.period_setPeriod_of_ne i p hj
  have self : (x.post i p).period i = p := x.period_setPeriod_self i p
  refine ⟨fun z j hz => ?_, fun st j hst => ?_, fun j hj => ?_,
    h.settings.of_periods (fun j => ?_) rfl rfl rfl rfl⟩
  · obtain ⟨hforce, hmask⟩ := h.zones z j hz
    rw [others fun hj => hfree (hj ▸ hforce)]
    exact ⟨hforce, hmask⟩
  · obtain ⟨hforce, hmask⟩ := h.stages st j hst
    rw [others fun hj => hfree (hj ▸ hforce)]
    exact ⟨hforce, hmask⟩
  · by_cases hji : j = i
    · rw [hji, self, hs] at hj
      cases hj
    · exact h.pending j (others hji ▸ hj)
  · by_cases hji : j = i
    · rw [hji, self]; exact hp
    · rw [others hji]; exact h.settings.period j

theorem period_inRange (f : PostedFields) : f.period.InRange :=
  fun _ => ⟨le_clamp _ _ _, clamp_le (by decide), clamp_le (by decide)⟩

theorem slotIxOf_some {n : Nat} {i : SlotIx} (h : slotIxOf n = some i) : n = i.val := by
  unfold slotIxOf at h
  split at h
  · cases h; rfl
  · cases h

section Owners
variable (h : s.GainLegal)
include h

theorem ownPost_gainLegal (n : Nat) (f : PostedFields) : (ownPost n f s).2.GainLegal := by
  rcases lt_or_ge n 32 with hn | hn
  · obtain ⟨i, rfl⟩ : ∃ i : SlotIx, n = i.val := ⟨⟨n, hn⟩, rfl⟩
    cases ho : (s.sched.period i).state.controller
    · have hfree : (s.sched.period i).state = .empty ∨ (s.sched.period i).state = .retired := by
        cases hs : (s.sched.period i).state <;> simp_all [PeriodState.controller]
      rw [ownPost_written f hfree]
      have hpost : (s.sched.post i f.period).Named := post_named h.named hfree rfl (period_inRange f)
      dsimp only
      refine GainLegal.schedEvent h ?_
      exact Ledger.cutShort_legal (Ledger.walk_named (l := ⟨s.sched.post i f.period, s.reports⟩) hpost)
    · rw [ownPost_notOwned f (PeriodState.controller_iff.mp ho)]
      exact h
  · rw [ownPost_refused hn]
    exact h

theorem ownRecall_gainLegal (n : Nat) : (ownRecall n s).2.GainLegal := by
  rcases lt_or_ge n 32 with hn | hn
  · obtain ⟨i, rfl⟩ : ∃ i : SlotIx, n = i.val := ⟨⟨n, hn⟩, rfl⟩
    have withdrawn (hw : (s.sched.period i).state = .waiting ∨ (s.sched.period i).state = .pending) :
        (ownRecall i.val s).2.GainLegal := by
      have hne : (s.sched.period i).state ≠ .empty := by rcases hw with hw | hw <;> simp [hw]
      have gone : ((Ledger.mk s.sched s.reports).retire i .withdrawn).sched.Named :=
        Ledger.retire_named h.named hne _
      rw [ownRecall_withdrawn hw]
      dsimp only
      refine GainLegal.schedEvent h ?_
      refine Ledger.cutShort_legal ?_
      dsimp only
      split
      · next hp =>
        refine Ledger.walk_named (Ledger.advance_named gone ?_)
        rw [Ledger.walk_retire, ← h.named.pending i hp, Ledger.period_retire_self]
        exact fun hr => by cases hr
      · exact gone
    cases hs : (s.sched.period i).state with
    | empty => rw [ownRecall_free (.inl hs)]; exact h
    | retired => rw [ownRecall_free (.inr hs)]; exact h
    | waiting => exact withdrawn (.inl hs)
    | pending => exact withdrawn (.inr hs)
    | inForce => rw [ownRecall_inForce hs]; exact h
  · rw [ownRecall_refused hn]
    exact h

theorem ownSetFallback_gainLegal (f : Fallback) : (ownSetFallback f s).2.GainLegal := by
  have hnamed := h.named
  refine h.schedEvent ((Schedule.legal_iff _).mpr ⟨⟨hnamed.zones, hnamed.stages, hnamed.pending, ?_⟩,
    ((Schedule.legal_iff _).mp h.1).2⟩)
  obtain ⟨hperiods, -, htick, hclock⟩ := hnamed.settings
  exact ⟨hperiods, ⟨le_clamp _ _ _, clamp_le (by decide), le_clamp _ _ _, clamp_le (by decide), le_clamp _ _ _,
    clamp_le (by decide), le_clamp _ _ _, clamp_le (by decide), le_clamp _ _ _, clamp_le (by decide),
    clamp_le (by decide)⟩, htick, hclock⟩

theorem ownSetTime_gainLegal {n : Nat} (hn : n ≤ Config.max32) : (ownSetTime n s).2.GainLegal := by
  by_cases hj : s.sched.clockSet = true ∧ (∃ i, (s.sched.period i).state = .inForce) ∧ n + 300 < s.sched.clock
  · rw [ownSetTime_refused hj]
    exact h
  · rw [ownSetTime_set hj]
    refine h.reword (y := (s.timeSet n).sched) ?_ rfl hn rfl rfl rfl
    refine Schedule.reworded_of_periods (f := (s.timeSet n).sched.period) (fun i => ?_) (fun i => rfl) rfl rfl rfl rfl
    have hclip : (s.timeSet n).sched.period i = _ := s.sched.clipped_get n i
    rw [hclip]
    split <;> exact ⟨_, _, _, rfl⟩

theorem ownSetCoupling_gainLegal (st p a : Nat) : (ownSetCoupling st p a s).2.GainLegal := by
  unfold ownSetCoupling
  split
  · split
    · exact h
    · have coupled := h.couple (v := attenuation a) ‹Stage› ‹SetIx› fun _ => attenuation_le
      dsimp only
      exact coupled
  · exact h
  · exact h

theorem ownSetRates_gainLegal (st a r d : Nat) : (ownSetRates st a r d s).2.GainLegal := by
  unfold ownSetRates
  split
  · exact h
  · next st _ =>
    have rates := (h.engine st).withRates (attack := clamp 1 100 a) (release := clamp 1 50 r)
      (hold := clamp 0 120 d)
      ⟨le_clamp _ _ _, clamp_le (by decide)⟩ ⟨le_clamp _ _ _, clamp_le (by decide)⟩ (clamp_le (by decide))
    dsimp only
    exact GainLegal.putEngine h st rates

/-! ### The standby monitor and START -/

theorem GainLegal.leaveDark (c : DarkCause) : (s.leaveDark c).GainLegal := by
  refine h.follow rfl rfl fun st => ?_
  have hst : (s.leaveDark c).engine st = (s.engine st).brightenRefresh s.now := by
    simp [State.engine]
  rw [hst]
  exact (h.engine st).brightenRefresh s.now

theorem GainLegal.restartDark : s.restartDark.GainLegal := h.of_eq (by simp) (by simp) (by simp)

theorem GainLegal.excessTold (p : SetIx) : (s.excessTold p).GainLegal := by
  unfold State.excessTold
  split
  · exact (h.leaveDark _).restartDark
  · exact h.restartDark

theorem GainLegal.stageL1 (st : Stage) (v : Option Nat) : (s.stageL1 st v).GainLegal := by
  have heard : (({ s with standby := { s.standby with lastL1 := s.standby.lastL1.set st v } } : State).setQuiet st
      (!loudL1 s.standby.threshold v)).GainLegal := h.of_eq rfl rfl rfl
  unfold State.stageL1
  dsimp only
  split
  · split
    · exact (heard.leaveDark _).restartDark
    · exact heard
  · exact heard.of_eq (by simp) (by simp) (by simp)

theorem GainLegal.setDark (en : Bool) (threshold darkTime : Nat) : (s.setDark en threshold darkTime).GainLegal := by
  have stored : ({ s with standby := { s.standby with
      enable := en, threshold := threshold, darkTime := darkTime } } : State).GainLegal := h.of_eq rfl rfl rfl
  unfold State.setDark
  dsimp only
  split
  · split
    · exact (stored.leaveDark .disabled).of_eq rfl rfl rfl
    · exact stored.of_eq rfl rfl rfl
  · split
    · exact stored
    · refine GainLegal.restartDark ?_
      obtain ⟨b, hb⟩ := State.foldQuiet_frame
        { s with standby := { s.standby with enable := en, threshold := threshold, darkTime := darkTime } }
        (fun t st => match t.meterSlot st with
          | some sl => sl.win.stale || !(loudL1 threshold t.standby.lastL1[st])
          | none => true)
      exact Eq.subst (motive := State.GainLegal) hb.symm (h.of_eq rfl rfl rfl)

theorem GainLegal.takeControl : s.takeControl.GainLegal := by
  refine h.follow (by simp) (by simp) fun st => ?_
  have hst : s.takeControl.engine st = (s.released st).1 := by
    rw [State.takeControl_eq]
    simp [State.engine]
  rw [hst, State.released]
  split
  · next hw => exact (h.engine st).takeControl hw s.now st
  · exact (h.engine st).refl

theorem GainLegal.tableChanged {before : State} (p : SetIx) : (s.tableChanged before p).GainLegal := by
  unfold State.tableChanged
  dsimp only
  split
  · exact h.of_eq (by simp) (by simp) (by simp)
  · exact (h.clearColumn p).of_eq (by simp) (by simp) (by simp)

end Owners

end State

end Sys2Proof.Machine

/-! Readings, timers, restarts and requests keep the path to the gain engines legal; so every step does. -/

namespace Sys2Proof.Machine

namespace State

variable {s t : State}

/-! ### The window engine -/

theorem SameGain.offer (h : SameGain s t) (n : Notice) : SameGain s (t.offer n) := h.trans (.of_eq rfl rfl rfl)

theorem tellFresh_sameGain (s : State) (p : SetIx) (sl : Slot) : SameGain s (s.tellFresh p sl) := by
  have thawed : SameGain s (s.thawSet p) := ⟨rfl, rfl, rfl, rfl, rfl⟩
  unfold State.tellFresh
  split
  · split
    · exact thawed
    · exact .of_eq rfl rfl rfl
  · split
    · exact thawed
    · exact .of_eq rfl rfl rfl
  · exact .of_eq (by simp) (by simp) (by simp)
  · exact .of_eq rfl rfl rfl

theorem tellStale_sameGain (s : State) (p : SetIx) (sl : Slot) : SameGain s (s.tellStale p sl) := by
  have frozen : SameGain s (s.freezeSet p) := by
    obtain ⟨f, hf⟩ := s.freezeSet_frame p
    rw [hf]
    exact ⟨rfl, rfl, rfl, rfl, rfl⟩
  unfold State.tellStale
  split
  · split
    · exact frozen
    · exact .of_eq rfl rfl rfl
  · split
    · exact frozen
    · exact .of_eq rfl rfl rfl
  · exact .of_eq (by simp) (by simp) (by simp)
  · exact .of_eq rfl rfl rfl

theorem refreshSlot_sameGain (s : State) (p : SetIx) (w : Way) (r : Reading) : SameGain s (s.refreshSlot p w r) := by
  unfold State.refreshSlot
  split
  · exact .of_eq rfl rfl rfl
  · simp only
    split
    · split
      · refine SameGain.offer (SameGain.trans ?_ (tellFresh_sameGain _ _ _)) _
        exact .of_eq rfl rfl rfl
      · exact .of_eq rfl rfl rfl
    · split
      · refine SameGain.trans ?_ (tellFresh_sameGain _ _ _)
        exact .of_eq rfl rfl rfl
      · exact .of_eq rfl rfl rfl

theorem tickSlot_sameGain (s : State) (p : SetIx) (w : Way) : SameGain s (s.tickSlot p w) := by
  unfold State.tickSlot
  split
  · exact .of_eq rfl rfl rfl
  · split
    · exact .of_eq rfl rfl rfl
    · split
      · refine SameGain.trans ?_ (tellStale_sameGain _ _ _)
        exact .of_eq rfl rfl rfl
      · exact .of_eq rfl rfl rfl

theorem score_clock (x : Schedule) (z : Zone) (b : Bool) (v : Option Int) :
    (x.score z b v).tickAt = x.tickAt ∧ (x.score z b v).clockSet = x.clockSet ∧ (x.score z b v).clock = x.clock := by
  unfold Schedule.score
  split <;> exact ⟨rfl, rfl, rfl⟩

section Readings
variable (h : s.GainLegal)
include h

theorem GainLegal.score (p : SetIx) (w : Way) (z : Zone) (lim : LimitSet) (r : Reading) :
    (s.score p w z lim r).GainLegal := by
  unfold State.score
  split
  · exact h
  · next sl _ =>
    obtain ⟨-, -, htick, hclock⟩ := h.named.settings
    obtain ⟨ht, hs, hc⟩ := score_clock s.sched z (overShort lim sl.win.l1) (headroom lim sl.win.l1 sl.win.pk)
    exact h.reword (s.sched.score_reworded z _ _) (by rw [ht, hs, htick]) (by rw [hc]; exact hclock) rfl rfl rfl

theorem GainLegal.stepExceed (p : SetIx) (w : Way) (f : Slot → Slot × List Notice) :
    (s.stepExceed p w f).GainLegal := by
  obtain ⟨ps, rep, hs⟩ := s.stepExceed_frame p w f
  rw [hs]
  exact h.of_eq rfl rfl rfl

theorem GainLegal.workFixed (p : SetIx) (w : Way) (z : Zone) (lim : LimitSet) (r : Reading) :
    (s.workFixed p w z lim r).GainLegal := by
  unfold State.workFixed
  split
  · exact h
  · next sl _ =>
    have evaluated := ((h.score p w z lim r).stepExceed p w fun t =>
      t.exceedStep (excess lim sl.win.l1 sl.win.pk r.peak) (dominantKind lim sl.win.l1 sl.win.pk r.peak)).evaluate p
      (decide (w = .one) && sl.locked) lim.margin (excess lim sl.win.l1 sl.win.pk r.peak)
      (headroom lim sl.win.l1 sl.win.pk)
    simp only
    split
    · exact evaluated.excessTold p
    · exact evaluated

theorem GainLegal.workStage (p : SetIx) (w : Way) (st : Stage) (r : Reading) : (s.workStage p w st r).GainLegal := by
  have heard := (h.stepExceed p w Slot.exceedEnd).stageL1 st
    (((s.stepExceed p w Slot.exceedEnd).slotAt p w).bind (·.win.l1))
  unfold State.workStage
  simp only
  split
  · exact heard.withEngine st ((heard.engine st).echo _ st _)
  · exact heard

theorem GainLegal.roleWork (p : SetIx) (w : Way) (u : Use) (lim : LimitSet) (r : Reading) :
    (s.roleWork p w u lim r).GainLegal := by
  unfold State.roleWork
  split
  · split
    · exact h
    · exact h.workFixed ..
  · split
    · exact h
    · exact h.workFixed ..
  · refine GainLegal.stepExceed ?_ p w _
    split
    · exact h
    · exact h.score ..
  · exact h.workStage ..

theorem GainLegal.windowWork (p : SetIx) (w : Way) (r : Reading) : (s.windowWork p w r).GainLegal := by
  unfold State.windowWork
  split
  · exact h
  · next sl _ =>
    split
    · exact h.of_eq rfl rfl rfl
    · exact h.of_eq rfl rfl rfl
    · next n _ =>
      have advanced : (s.advanceTo p w sl (s.limitsFor sl.use) n r).GainLegal := h.of_eq rfl rfl rfl
      have refreshed := advanced.same (refreshSlot_sameGain _ p w r)
      have stored : (((s.advanceTo p w sl (s.limitsFor sl.use) n r).refreshSlot p w r).storeFigures p w
        (s.limitsFor sl.use)).GainLegal := refreshed.of_eq rfl rfl rfl
      exact stored.roleWork ..

theorem GainLegal.processReading (r : Reading) : (s.processReading r).GainLegal := by
  have seated : (s.seat r).1.GainLegal := by
    obtain ⟨_, _, _, hf⟩ := s.seat_frame r
    rw [hf]
    exact h.of_eq rfl rfl rfl
  unfold State.processReading
  split
  · next he => rw [he] at seated; exact GainLegal.windowWork seated ..
  · next he => rw [he] at seated; exact seated

theorem GainLegal.takeReading : s.takeReading.GainLegal := by
  unfold State.takeReading
  split
  · exact h
  · next r q _ =>
    have rest : ({ s with readings := q } : State).GainLegal := h.of_eq rfl rfl rfl
    exact rest.processReading r

theorem GainLegal.freshnessTick : s.freshnessTick.GainLegal :=
  foldl_keeps (P := State.GainLegal)
    (fun _ p ht => (ht.same (tickSlot_sameGain _ p .zero)).same (tickSlot_sameGain _ p .one)) _
    (h.of_eq rfl rfl rfl)

/-! ### Timers and the two links -/

theorem GainLegal.stepTick (st : Stage) : (s.stepTick st).GainLegal := by
  obtain ⟨⟨hstate, hrest⟩, htarget, hgranted⟩ := (h.engine st).stepTick st
  rw [stepTick_eq]
  refine (h.putEngine st (e := { ((s.engine st).stepTick st).1 with
    stepAt := (s.engine st).stepAt + Config.second / 10 }) ⟨⟨hstate, hrest⟩, htarget, hgranted⟩).of_eq rfl rfl rfl

theorem GainLegal.holdExpiry (st : Stage) : (s.holdExpiry st).GainLegal := by
  unfold State.holdExpiry
  split
  · exact h
  · next t _ => exact (h.reach t).putEngine st ((h.engine st).holdExpiry _)

theorem GainLegal.releaseTick (st : Stage) : (s.releaseTick st).GainLegal := by
  unfold State.releaseTick
  split
  · exact h
  · next t _ => exact (h.reach t).putEngine st ((h.engine st).releaseTick t)

theorem GainLegal.refreshExpiry (st : Stage) : (s.refreshExpiry st).GainLegal := by
  unfold State.refreshExpiry
  split
  · exact h
  · next t ht => exact (h.reach t).putEngine st ((h.engine st).refreshed ht)

theorem GainLegal.orderSent : s.orderSent.GainLegal := by
  unfold State.orderSent
  split
  · exact h
  · next o _ => exact (h.putEngine o.st ((h.engine o.st).sent s.now s.standby.dark o.order)).of_eq rfl rfl rfl

theorem GainLegal.chooseOrder : s.chooseOrder.GainLegal := by
  unfold State.chooseOrder
  split
  · exact h
  · split
    · exact h
    · next st _ => exact (h.putEngine st (h.engine st).chosen).of_eq rfl rfl rfl

theorem GainLegal.transmit : s.transmit.GainLegal := by
  unfold State.transmit
  split
  · exact h
  · exact h.chooseOrder.of_eq (by simp) (by simp) (by simp)

/-! ### Restarts -/

theorem GainLegal.enforceStandby : s.enforceStandby.GainLegal := by
  have quiet : ({ s with standby := { s.standby with
      quiet := Vector.replicate 4 true, lastL1 := Vector.replicate 4 none } } : State).GainLegal := h.of_eq rfl rfl rfl
  unfold State.enforceStandby
  simp only
  split
  · exact (quiet.leaveDark .restart).restartDark
  · exact quiet.restartDark

end Readings

theorem needAt_enforce (c : Control) (st : Stage) (p : SetIx) : c.enforce.needAt st p = 0 := by
  simp [Control.enforce, Control.needAt, State.reset]

theorem targets_enforce (c : Control) (st : Stage) : c.enforce.targets[st] = 0 := by
  simp [Control.enforce, State.reset]

/-- No need stands after a restart: the tables are legal with the couplings as they were. -/
theorem control_enforce_legal {c : Control} (h : c.TablesLegal) : c.enforce.Legal := fun st =>
  ⟨fun p => ⟨(needAt_enforce c st p).trans_le (Nat.zero_le _),
    (needAt_enforce c st p).trans_le (Nat.zero_le _), fun _ => needAt_enforce c st p, fun a ha => (h st p).2.2 a ha⟩,
    0, (needAt_enforce c st 0).trans (targets_enforce c st).symm⟩

theorem GainLegal.enforcementRestart (h : s.GainLegal) : s.enforcementRestart.GainLegal := by
  refine GainLegal.enforceStandby ⟨h.1, control_enforce_legal h.tables, fun st => ?_⟩
  obtain ⟨hl, htarget, hgranted⟩ := (h.engine st).enforce s.now
  simp only [State.engine, Fin.getElem_fin, Vector.getElem_ofFn]
  exact ⟨hl, htarget.trans (targets_enforce s.control st).symm, hgranted.trans (h.2.2 st).2.2⟩

/-- The schedule at power-on: no period, no holder, the fallback record of the latched mode. -/
theorem startSchedule_legal (mode : Fin 4) :
    ({ State.reset.sched with fallback := startFallback mode } : Schedule).Legal := by
  have hperiod (i : SlotIx) : State.reset.sched.period i = Period.empty := by simp [State.reset, Schedule.period]
  have hzone (z : Zone) : State.reset.sched.zoneHolder[z] = none := by simp [State.reset]
  have hstage (st : Stage) : State.reset.sched.stageHolder[st] = none := by simp [State.reset]
  have free (i : SlotIx) {x : PeriodState} (hx : x ≠ .empty) : (State.reset.sched.period i).state ≠ x := by
    rw [hperiod]
    exact hx.symm
  refine ⟨⟨fun z i hi => ?_, fun st i hi => ?_, fun i hi => absurd hi (free i (by decide)),
    fun i hi => absurd hi (free i (by decide))⟩, fun i hi => absurd (congrArg Period.state (hperiod i)) hi, ?_, rfl,
    Nat.zero_le _⟩
  · exact absurd (hi.symm.trans (hzone z)) (by simp)
  · exact absurd (hi.symm.trans (hstage st)) (by simp)
  · dsimp only [startFallback]
    split <;> decide

theorem resetControl_legal : State.reset.control.Legal := by
  have hneed (st : Stage) (p : SetIx) : State.reset.control.needAt st p = 0 := by simp [State.reset, Control.needAt]
  have hcoupling (st : Stage) (p : SetIx) : State.reset.control.couplingAt st p = none := by
    simp [State.reset, Control.couplingAt]
  have htarget (st : Stage) : State.reset.control.targets[st] = 0 := by simp [State.reset]
  exact fun st => ⟨fun p => ⟨(hneed st p).trans_le (Nat.zero_le _), (hneed st p).trans_le (Nat.zero_le _),
    fun _ => hneed st p, fun a ha => absurd (ha.symm.trans (hcoupling st p)) (by simp)⟩, 0,
    (hneed st 0).trans (htarget st).symm⟩

theorem startFallback_permits (mode : Fin 4) (st : Stage) : (startFallback mode).permits.getLsb st = true := by
  have all : ∀ st : Stage, Fallback.reset.permits.getLsb st = true := by decide
  unfold startFallback
  split <;> exact all st

theorem startState_gainLegal (pins : Straps) (now freshAt : Nat) (steps : Stage → Nat) (l : List Instr) :
    (startState pins now freshAt steps l).GainLegal := by
  refine ⟨startSchedule_legal pins.mode, resetControl_legal, fun st => ?_⟩
  obtain ⟨hl, htarget, hgranted⟩ := Engine.startEngine_legal pins.mode (steps st)
  have hst : (startState pins now freshAt steps l).engine st = startEngine pins.mode (steps st) := by
    simp [State.engine, startState]
  have hholder : (startState pins now freshAt steps l).sched.stageHolder[st] = none := by
    simp [startState, State.reset]
  rw [hst, (Schedule.permission_fallback hholder).1]
  refine ⟨hl, htarget.trans ?_, hgranted.trans (startFallback_permits pins.mode st).symm⟩
  simp [startState, State.reset]

theorem fullRestart_gainLegal (s : State) (pins : Straps) : (s.fullRestart pins).GainLegal := by
  have started := startState_gainLegal pins s.now s.freshAt (fun st => (s.engine st).stepAt) s.pending
  unfold State.fullRestart
  simp only
  split
  · exact started.of_eq rfl rfl rfl
  · exact started

theorem GainLegal.frameSent (h : s.GainLegal) (pins : Straps) : (s.frameSent pins).GainLegal := by
  have freed (c : Console) : ({ s with console := c } : State).GainLegal := h.of_eq rfl rfl rfl
  unfold State.frameSent
  split
  · exact h
  · simp only
    split
    · exact h.of_eq rfl rfl rfl
    · exact h.of_eq rfl rfl rfl
    · exact h.of_eq rfl rfl rfl
    · split
      · exact h.of_eq rfl rfl rfl
      · exact fullRestart_gainLegal _ pins
      · exact (freed _).enforcementRestart

/-! ### Requests -/

theorem GainLegal.declare (h : s.GainLegal) (pt : PointId) (use : Use) (lock : Bool) :
    (s.declare pt use lock).2.GainLegal := by
  unfold State.declare
  simp only
  split
  · exact h
  · split
    · exact h
    · split
      · next w _ =>
        have put : (s.setPoints (setOf pt) ((s.points[setOf pt]).redeclare w use lock).1).GainLegal :=
          h.of_eq rfl rfl rfl
        exact put.tableChanged (setOf pt)
      · unfold State.placePoint
        simp only
        split
        · exact h
        · next w _ =>
          split
          · exact h
          · next u he =>
            have filled : ((u.fill w pt use lock).touch (setOf pt) w).GainLegal := by
              obtain ⟨_, _, _, rfl⟩ := evict_frame he
              exact h.of_eq rfl rfl rfl
            exact filled.tableChanged (setOf pt)

theorem ownDeclare_gainLegal (h : s.GainLegal) (id r pl l : Nat) : (ownDeclare id r pl l s).2.GainLegal := by
  unfold ownDeclare
  split
  · split
    · exact h
    · exact h.declare ..
  · exact h
  · exact h
  · exact h

theorem ownRelease_gainLegal (h : s.GainLegal) (id : Nat) : (ownRelease id s).2.GainLegal := by
  unfold ownRelease
  split
  · exact h
  · simp only
    split
    · exact h
    · split
      · exact h
      · next u he =>
        have left : u.GainLegal := by
          obtain ⟨_, _, _, rfl⟩ := evict_frame he
          exact h.of_eq rfl rfl rfl
        exact left.tableChanged _

theorem le32_le (a b c d : Byte) : le32 a b c d ≤ Config.max32 := by
  have := a.isLt; have := b.isLt; have := c.isLt; have := d.isLt
  unfold le32 le16 Config.max32
  omega

/-- Every owner of a request keeps the path legal. -/
theorem GainLegal.ownerReply (h : s.GainLegal) (k : RequestKind) (seq : Byte) (body : List Byte)
    (hl : body.length = k.length) : (ownerReply k seq body s).2.GainLegal := by
  cases k
  case status => match body, hl with | [], _ => exact h
  case setTime => match body, hl with | [_, _, _, _], _ => exact ownSetTime_gainLegal h (le32_le ..)
  case getTime => match body, hl with | [], _ => exact h
  case start =>
    match body, hl with
    | [], _ =>
      change (ownStart s).2.GainLegal
      rcases ownStart_cases s with hx | hx <;> rw [hx]
      · exact h
      · exact h.takeControl
  case restart =>
    match body, hl with
    | [x], _ =>
      obtain ⟨c, hc⟩ := ownRestart_frame x.toNat s
      change (ownRestart x.toNat s).2.GainLegal
      rw [hc]
      exact h.of_eq rfl rfl rfl
  case declarePoint => match body, hl with | [_, _, _, _, _], _ => exact ownDeclare_gainLegal h ..
  case releasePoint => match body, hl with | [_, _], _ => exact ownRelease_gainLegal h _
  case readPoint => match body, hl with | [_, _], _ => exact (ownReadPoint_state _ s).symm ▸ h
  case setCoupling => match body, hl with | [_, _, _, _], _ => exact ownSetCoupling_gainLegal h ..
  case postPeriod =>
    match body, hl with
    | [_, _, _, _, _, _, _, _, _, _, _, _, _, _, _, _, _, _, _, _, _, _], _ => exact ownPost_gainLegal h ..
  case readPeriod => match body, hl with | [_], _ => exact (ownReadPeriod_state _ s).symm ▸ h
  case recallPeriod => match body, hl with | [_], _ => exact ownRecall_gainLegal h _
  case setFallback =>
    match body, hl with | [_, _, _, _, _, _, _, _, _, _, _], _ => exact ownSetFallback_gainLegal h _
  case setStageRates => match body, hl with | [_, _, _, _], _ => exact ownSetRates_gainLegal h ..
  case readStage => match body, hl with | [_], _ => exact (ownReadStage_state _ s).symm ▸ h
  case setDark =>
    match body, hl with
    | [e, t0, t1, d0, d1], _ =>
      change (ownSetDark e.toNat (le16 t0 t1) (le16 d0 d1) s).2.GainLegal
      rcases ownSetDark_cases e.toNat (le16 t0 t1) (le16 d0 d1) s with hx | ⟨en, hx⟩ <;> rw [hx]
      · exact h
      · exact h.setDark ..
  case readCounters =>
    match body, hl with
    | [c], _ =>
      obtain ⟨r, hr⟩ := ownReadCounters_frame c.toNat s
      change (ownReadCounters c.toNat s).2.GainLegal
      rw [hr]
      exact h.of_eq rfl rfl rfl
  case export_ =>
    match body, hl with
    | [p0, p1, m, b, n], _ =>
      obtain ⟨x, hx⟩ := ownExport_frame seq (le16 p0 p1) m.toNat b.toNat n.toNat s
      change (ownExport seq (le16 p0 p1) m.toNat b.toNat n.toNat s).2.GainLegal
      rw [hx]
      exact h.of_eq rfl rfl rfl
  case abortExport =>
    match body, hl with
    | [], _ =>
      obtain ⟨x, hx⟩ := ownAbort_frame s
      change (ownAbort s).2.GainLegal
      rw [hx]
      exact h.of_eq rfl rfl rfl

/-- Every command keeps the path legal. -/
theorem GainLegal.exec (h : s.GainLegal) (c : Instr) : ∃ t, exec c s = .next t ∧ t.GainLegal := by
  have hunt : s.huntConsole.GainLegal := h.of_eq rfl rfl rfl
  have console : ∀ (u : State) c, u.GainLegal → ({ u with console := c } : State).GainLegal :=
    fun u c hu => hu.of_eq rfl rfl rfl
  refine exec_induct (P := State.GainLegal) c (fun u hu => hu.transmit) h
    (fun _ => h.of_eq rfl rfl rfl) (fun pins still =>
      (startState_gainLegal pins s.now (s.now + Config.freshPeriod) (fun _ => s.now + Config.stepPeriod)
        s.pending).of_eq rfl rfl rfl)
    ?character ?frame
    (fun _ => h.of_eq rfl rfl rfl) ?meterGap ?meterBreak ?alive ?returns h.takeReading h.freshnessTick
    h.freezeExpiry h.clockTick h.stepTick h.holdExpiry h.releaseTick h.refreshExpiry h.orderSent ?dark
    (State.consoleCharacter_keeps console h hunt.ownerReply) hunt ?gap h.frameSent
    (State.requestFrame_keeps console h hunt.ownerReply)
  case character =>
    intro i c g; obtain ⟨_, _, _, he⟩ := s.meterCharacter_frame i c g; rw [he]; exact h.of_eq rfl rfl rfl
  case frame =>
    intro i f; obtain ⟨_, _, _, he⟩ := (s.huntMeter i).validFrame_frame i f; rw [he]; exact h.of_eq rfl rfl rfl
  case meterGap => intro i; obtain ⟨_, _, _, he⟩ := s.meterGapExpiry_frame i; rw [he]; exact h.of_eq rfl rfl rfl
  case meterBreak => intro i; obtain ⟨_, _, he⟩ := s.meterBreak_frame i; rw [he]; exact h.of_eq rfl rfl rfl
  case alive => intro i; obtain ⟨_, _, _, he⟩ := s.aliveExpiry_frame i; rw [he]; exact h.of_eq rfl rfl rfl
  case returns => obtain ⟨_, _, _, he⟩ := s.returnExpiry_frame; rw [he]; exact h.of_eq rfl rfl rfl
  case dark => unfold State.darkExpiry; split <;> exact h.of_eq rfl rfl rfl
  case gap => unfold State.consoleGapExpiry; split <;> exact h.of_eq rfl rfl rfl

end State

/-- Settles O58: every command keeps schedule, needs and engines legal and in agreement, so every step does. -/
theorem stepsKeepScheduleNeedsAndEnginesLegal : Obligations.StepsKeepScheduleNeedsAndEnginesLegal :=
  fun _ _ h => step_keeps (P := State.GainLegal) (fun _ _ h => h) (fun _ _ h => h)
    (fun _ h => h.transmit) (fun c _ h => h.exec c) h

end Sys2Proof.Machine

/-! Steps, idle lines and resets: every command completes, and a reset leaves the power-on values. -/

namespace Sys2Proof.Machine

/-! ### What a command comes to -/

/-- A command acts, ends a reset, or begins to hold the part. -/
theorem exec_cases {P : Host.Outcome State Fault Refusal → Prop} (c : Instr) {s : State} (acts : ∀ f, P (s.act f))
    (ends : ∀ pins still, c = .powerOn pins ∨ c = .pinReset pins → P (.next (s.resetEnds pins still).transmit))
    (begins : ∀ h : ResetHold, c = .resetNLow ∨ c = .supplyBelowRange → (h.pin || h.supply) = true →
      P (.next (s.beginHold h))) : P (exec c s) := by
  cases c
  case powerOn pins => exact ends pins _ (.inl rfl)
  case pinReset pins => exact ends pins _ (.inr rfl)
  case resetNLow => exact begins _ (.inl rfl) (Bool.true_or _)
  case supplyBelowRange => exact begins _ (.inr rfl) (Bool.or_true _)
  all_goals
    simp only [exec_meterCharacterReceived, exec_meterReadingFrame, exec_badFrame, exec_meterFrameGapExpiry,
      exec_meterLineBreak, exec_aliveTimerExpiry, exec_returnTimerExpiry, exec_reading, exec_freshnessTick,
      exec_freezeTimerExpiry, exec_venueClockTick, exec_stepTimerTick, exec_holdTimerExpiry, exec_releaseTimerTick,
      exec_refreshTimerExpiry, exec_stageOrderSent, exec_darkTimerExpiry, exec_consoleCharacterReceived,
      exec_consoleFrameDiscarded, exec_consoleFrameGapExpiry, exec_consoleLineBreak, exec_consoleFrameSent,
      exec_requestDiscarded, exec_unknownKind, exec_status, exec_setTime, exec_getTime, exec_start, exec_restartFull,
      exec_restartEnforcement, exec_declarePoint, exec_releasePoint, exec_readPoint, exec_setCoupling,
      exec_postPeriod, exec_readPeriod, exec_recallPeriod, exec_setFallback, exec_setStageRates, exec_readStage,
      exec_setDark, exec_readCounters, exec_readCountersClear, exec_exportOne, exec_exportWalk, exec_abortExport]
    exact acts _

/-! ### Steps -/

/-- Settles O1: the two branches of `step`. -/
theorem stepRunsTheFrontCommandOrIdles : Obligations.StepRunsTheFrontCommandOrIdles := by
  refine ⟨fun c rest s h => ?_, fun s h => ?_⟩
  · rw [step, h]
  · simp only [step, h, State.idle]

theorem State.schedEvent_pending (s : State) (f : Ledger → Ledger) : (s.schedEvent f).pending = s.pending := by
  obtain ⟨_, _, h⟩ := s.schedEvent_frame f
  rw [h]

theorem State.declare_pending (s : State) (pt : PointId) (use : Use) (lock : Bool) :
    (s.declare pt use lock).2.pending = s.pending := by
  unfold State.declare
  simp only
  split
  · rfl
  · split
    · rfl
    · split
      · exact State.tableChanged_pending ..
      · unfold State.placePoint
        simp only
        split
        · rfl
        · split
          · rfl
          · next u he =>
            obtain ⟨_, _, _, rfl⟩ := State.evict_frame he
            exact State.tableChanged_pending ..

theorem ownDeclare_pending (s : State) (id r pl l : Nat) : (ownDeclare id r pl l s).2.pending = s.pending := by
  unfold ownDeclare
  split
  · split
    · rfl
    · exact s.declare_pending ..
  · rfl
  · rfl
  · rfl

theorem ownRelease_pending (s : State) (id : Nat) : (ownRelease id s).2.pending = s.pending := by
  unfold ownRelease
  split
  · rfl
  · simp only
    split
    · rfl
    · split
      · rfl
      · next u he =>
        obtain ⟨_, _, _, rfl⟩ := State.evict_frame he
        exact State.tableChanged_pending ..

theorem ownSetCoupling_pending (s : State) (st p a : Nat) : (ownSetCoupling st p a s).2.pending = s.pending := by
  unfold ownSetCoupling
  split
  · split
    · rfl
    · dsimp only
      exact State.couple_pending ..
  · rfl
  · rfl

theorem ownerReply_pending (k : RequestKind) (seq : Byte) (body : List Byte) (s : State)
    (hl : body.length = k.length) : (ownerReply k seq body s).2.pending = s.pending := by
  refine ownerReply_induct (P := fun r => r.2.pending = s.pending) hl rfl ?time rfl ?start ?restart ?declare ?release
    (fun id => by rw [ownReadPoint_state]) ?coupling ?post (fun i => by rw [ownReadPeriod_state]) ?withdraw
    (fun f => State.schedEvent_pending s _) ?rates (fun st => by rw [ownReadStage_state]) ?dark ?counters ?history
    ?stop
  case time => intro t; obtain ⟨_, hx⟩ := ownSetTime_frame t s; rw [hx]
  case start => rcases ownStart_cases s with hx | hx <;> rw [hx]; simp
  case restart => intro x; obtain ⟨_, hx⟩ := ownRestart_frame x s; rw [hx]
  case declare => intro id r pl l; exact ownDeclare_pending s id r pl l
  case release => intro id; exact ownRelease_pending s id
  case coupling => intro st p a; exact ownSetCoupling_pending s st p a
  case post =>
    intro i f
    rcases ownPost_cases i f s with hx | ⟨g, hx⟩ <;> rw [hx]
    exact s.schedEvent_pending g
  case withdraw =>
    intro i
    rcases ownRecall_cases i s with hx | ⟨g, hx⟩ <;> rw [hx]
    exact s.schedEvent_pending g
  case rates => intro st a r hd; obtain ⟨_, hx⟩ := ownSetRates_frame st a r hd s; rw [hx]
  case dark =>
    intro e t d
    rcases ownSetDark_cases e t d s with hx | ⟨en, hx⟩ <;> rw [hx]
    exact State.setDark_pending ..
  case counters => intro c; obtain ⟨_, hx⟩ := ownReadCounters_frame c s; rw [hx]
  case history => intro id m b n; obtain ⟨_, hx⟩ := ownExport_frame seq id m b n s; rw [hx]
  case stop => obtain ⟨_, hx⟩ := ownAbort_frame s; rw [hx]

theorem State.frameSent_pending (s : State) (pins : Straps) : (s.frameSent pins).pending = s.pending := by
  unfold State.frameSent
  split
  · rfl
  · simp only
    split
    · rfl
    · rfl
    · rfl
    · split
      · rfl
      · unfold State.fullRestart
        dsimp only
        split <;> rfl
      · exact State.enforceStandby_pending _

theorem exec_pending (c : Instr) (s : State) : ∃ t, exec c s = .next t ∧ t.pending = s.pending := by
  have console (u : State) (c : Console) (hu : u.pending = s.pending) :
      ({ u with console := c } : State).pending = s.pending := hu
  refine exec_induct (P := fun t => t.pending = s.pending) c (fun u hu => u.transmit_pending.trans hu) rfl
    (fun _ => rfl) (fun _ _ => rfl) ?character ?frame (fun _ => rfl) ?meterGap ?meterBreak ?alive ?returns ?reading
    ?freshness ?freeze ?clock (fun _ => by rw [State.stepTick_eq]) ?hold ?release ?refresh ?order ?dark
    (State.consoleCharacter_keeps console rfl fun k seq body => ownerReply_pending k seq body s.huntConsole) rfl ?gap
    ?sent (State.requestFrame_keeps console rfl fun k seq body => ownerReply_pending k seq body s.huntConsole)
  case character => intro i c g; obtain ⟨_, _, _, he⟩ := s.meterCharacter_frame i c g; rw [he]
  case frame => intro i f; obtain ⟨_, _, _, he⟩ := (s.huntMeter i).validFrame_frame i f; rw [he]; rfl
  case meterGap => intro i; obtain ⟨_, _, _, he⟩ := s.meterGapExpiry_frame i; rw [he]
  case meterBreak => intro i; obtain ⟨_, _, he⟩ := s.meterBreak_frame i; rw [he]
  case alive => intro i; obtain ⟨_, _, _, he⟩ := s.aliveExpiry_frame i; rw [he]
  case returns => obtain ⟨_, _, _, he⟩ := s.returnExpiry_frame; rw [he]
  case reading =>
    unfold State.takeReading
    split
    · rfl
    · exact State.processReading_pending ..
  case freshness =>
    exact foldl_keeps (P := fun t : State => t.pending = s.pending)
      (fun t p ht => ((t.tickSlot p .zero).tickSlot_pending p .one).trans ((t.tickSlot_pending p .zero).trans ht)) _ rfl
  case freeze =>
    intro p
    unfold State.freezeExpiry
    split
    · exact State.controlEvent_pending ..
    · rfl
    · rfl
  case clock =>
    unfold State.clockTick
    split
    · rfl
    · exact State.schedEvent_pending _ _
  case hold => intro st; unfold State.holdExpiry; split <;> rfl
  case release => intro st; unfold State.releaseTick; split <;> rfl
  case refresh => intro st; unfold State.refreshExpiry; split <;> rfl
  case order => unfold State.orderSent; split <;> rfl
  case dark => unfold State.darkExpiry; split <;> rfl
  case gap => unfold State.consoleGapExpiry; split <;> rfl
  case sent => intro pins; exact s.frameSent_pending pins

theorem safeFor (n : Nat) (s : State) : SafeFor n s := by
  induction n generalizing s with
  | zero => trivial
  | succ n ih =>
    cases h : s.pending with
    | nil => exact ⟨s.idle, by rw [step, h], ih _⟩
    | cons c rest =>
      obtain ⟨t, ht, -⟩ := exec_pending c { s with pending := rest }
      exact ⟨t, by rw [step, h]; exact ht, ih t⟩

/-- Settles O2: every command answers, so every run goes on. -/
theorem commandsCompleteAndLeaveTheQueue : Obligations.CommandsCompleteAndLeaveTheQueue :=
  ⟨exec_pending, fun s n => safeFor n s⟩

/-! ### Idle lines -/

theorem mem_stageOrderFrom (last : Option Stage) (st : Stage) : st ∈ stageOrderFrom last := by
  rw [stageOrderFrom_eq]
  exact List.mem_map.mpr ⟨st - firstLooked last, List.mem_finRange _, add_sub_cancel _ _⟩

theorem State.chooseOrder_settles (s : State) (h : s.chooseOrder.link.line = none) (st : Stage) :
    (s.chooseOrder.engine st).due = false := by
  by_cases hl : s.link.line = none
  · cases hf : (stageOrderFrom s.link.lastStage).find? (fun st => (s.engine st).due) with
    | none =>
      have hdue : ∀ st, (s.engine st).due = false := fun st => by
        simpa using List.find?_eq_none.mp hf st (mem_stageOrderFrom _ st)
      rw [State.chooseOrder_nothingDue hdue]
      exact hdue st
    | some st =>
      rw [State.chooseOrder_takes hl hf] at h
      cases h
  · rw [State.chooseOrder_busy hl] at h
    exact absurd h hl

theorem State.exportFrame_eq_none_iff {s : State} : s.exportFrame = none ↔ s.exporter.running = false := by
  unfold State.exportFrame
  dsimp only
  split
  · next h => simp [h]
  · next h =>
    split
    · simp [h]
    · split <;> simp [h]

theorem State.chooseFrame_settles (s : State) (h : s.chooseFrame.console.line = none) :
    s.chooseFrame.console.reply = none ∧ s.chooseFrame.exporter.running = false ∧
      s.chooseFrame.reports.queue = [] := by
  unfold State.chooseFrame at h ⊢
  split at h
  · next hl => rw [hl] at h; cases h
  · next hl =>
    split at h
    · cases h
    · next hr =>
      split at h
      · cases h
      · next hx =>
        split at h
        · cases h
        · next hq => exact ⟨hr, State.exportFrame_eq_none_iff.mp hx, hq⟩

/-- Each line is busy or has nothing to send. -/
def State.Settled (t : State) : Prop :=
  (t.link.line = none → ∀ st, (t.engine st).due = false) ∧
  (t.console.line = none → t.console.reply = none ∧ t.exporter.running = false ∧ t.reports.queue = [])

theorem State.transmit_settled (u : State) (h : u.held = false) : u.transmit.Settled := by
  have hchosen : u.transmit = u.chooseOrder.chooseFrame := by simp [State.transmit, h]
  rw [hchosen]
  refine ⟨fun hl st => ?_, State.chooseFrame_settles _⟩
  have hst : u.chooseOrder.chooseFrame.engine st = u.chooseOrder.engine st := by simp [State.engine]
  rw [State.chooseFrame_link] at hl
  rw [hst]
  exact u.chooseOrder_settles hl st

/-- Settles O3: a running part's command ends with the transmitters' choice. -/
theorem idleLinesHaveNothingToSend : Obligations.IdleLinesHaveNothingToSend := by
  intro c s t hexec hrun
  have settled (u : State) (hu : (Host.Outcome.next u.transmit : Host.Outcome State Fault Refusal) = .next t) :
      t.Settled := by
    obtain rfl : u.transmit = t := Host.Outcome.next.inj hu
    refine u.transmit_settled ?_
    rw [← hrun, State.held, State.held, State.transmit_hold]
  refine exec_cases (P := fun o => o = .next t → t.Settled) c (fun f hf => ?_) (fun _ _ _ => settled _)
    (fun h _ hh hf => ?_) hexec
  · cases hheld : s.held
    · exact settled _ ((State.act_running hheld f).symm.trans hf)
    · obtain rfl : s = t := Host.Outcome.next.inj ((State.act_held hheld f).symm.trans hf)
      exact absurd hheld (by simp [hrun])
  · obtain rfl : s.beginHold h = t := Host.Outcome.next.inj hf
    exact absurd (show (s.beginHold h).held = true from hh) (by simp [hrun])

/-! ### Resets -/

theorem startEngine_atPowerOn (mode : Fin 4) (stepAt : Nat) :
    (startEngine mode stepAt).AtPowerOn (mode = 0 || mode = 2) ∧ (startEngine mode stepAt).stepAt = stepAt := by
  unfold startEngine runMode
  cases h : (decide (mode = 0) || decide (mode = 2))
  · exact ⟨⟨rfl, rfl, rfl, rfl, rfl, rfl, rfl, rfl, rfl, rfl, rfl, rfl, rfl, rfl, rfl, rfl, rfl, rfl, rfl, rfl⟩, rfl⟩
  · exact ⟨⟨rfl, rfl, rfl, rfl, rfl, rfl, rfl, rfl, rfl, rfl, rfl, rfl, rfl, rfl, rfl, rfl, rfl, rfl, rfl, rfl⟩, rfl⟩

theorem startSchedule_atPowerOn (mode : Fin 4) :
    ({ State.reset.sched with fallback := startFallback mode } : Schedule).AtPowerOn (mode = 2 || mode = 3) := by
  refine ⟨fun i => ?_, rfl, rfl, fun z => ?_, fun st => ?_, ?_, rfl, rfl, rfl⟩
  · simp [State.reset, Schedule.period]
  · simp [State.reset]
  · simp [State.reset]
  · revert mode
    decide

theorem resetControl_atPowerOn : State.reset.control.AtPowerOn := by
  refine ⟨fun st p => ⟨?_, ?_⟩, fun st => ?_, fun p => ?_⟩
  · simp [State.reset, Control.couplingAt]
  · simp [State.reset, Control.needAt]
  · simp [State.reset]
  · simp [State.reset]

theorem startState_atPowerOn (pins : Straps) (now freshAt : Nat) (steps : Stage → Nat) (l : List Instr) :
    (startState pins now freshAt steps l).AtPowerOn pins := by
  have active : ∀ pref : Fin 4, preferredOf pref = if pref = 0 ∨ pref = 2 then .a else .b := by decide
  refine ⟨rfl, ?_, rfl, fun p => ?_, startSchedule_atPowerOn _, resetControl_atPowerOn, fun st => ?_, rfl, rfl, rfl,
    rfl, rfl, rfl, rfl, rfl, rfl⟩
  · simp only [startState, State.reset, active]
  · simp [startState, State.reset]
  · have hst : (startState pins now freshAt steps l).engine st = startEngine pins.mode (steps st) := by
      simp [State.engine, startState]
    rw [hst]
    exact (startEngine_atPowerOn _ _).1

theorem State.resetEnds_atPowerOn (s : State) (pins : Straps) (still : ResetHold) :
    (s.resetEnds pins still).AtPowerOn pins :=
  startState_atPowerOn pins s.now (s.now + Config.freshPeriod) (fun _ => s.now + Config.stepPeriod) s.pending

/-- Settles O4: a reset ends in the start state. -/
theorem resetEndsAtPowerOnValues : Obligations.ResetEndsAtPowerOnValues := fun pins s =>
  ⟨⟨_, rfl, s.resetEnds_atPowerOn pins _, rfl, rfl, rfl, rfl⟩,
    ⟨_, rfl, s.resetEnds_atPowerOn pins _, rfl, rfl, rfl, rfl⟩⟩

/-- Settles O5: the start of a hold, and the commands that a held part ignores. -/
theorem resetHoldsThePart : Obligations.ResetHoldsThePart := by
  refine ⟨fun s => ⟨rfl, rfl⟩, fun c s hheld hpower hpin hlow hsupply => ?_⟩
  have held : s.held = true := Bool.or_eq_true_iff.mpr hheld
  exact exec_cases (P := fun o => o = .next s) c (fun f => State.act_held held f)
    (fun pins _ h => absurd h (not_or_intro (hpower pins) (hpin pins)))
    fun _ h _ => absurd h (not_or_intro hlow hsupply)

theorem State.reset_eq_startState : State.reset =
    startState { rate := 0, pref := 0, mode := 0, stale := 0 } 0 Config.freshPeriod (fun _ => Config.stepPeriod) [] := by
  have engines : (Vector.replicate 4 Engine.reset) =
      Vector.ofFn fun _ : Stage => startEngine 0 Config.stepPeriod := by decide
  rw [startState, ← engines]
  rfl

/-- Settles O8: the reset state is the start state at strap levels 0. -/
theorem resetStateMeetsTheInvariants : Obligations.ResetStateMeetsTheInvariants := by
  refine ⟨?_, ⟨Nat.zero_le _, by simp [State.reset], fun r hr => by cases hr⟩, ⟨Nat.zero_le _, fun c => ?_⟩, ?_,
    State.pointsLegal_reset⟩
  · rw [State.reset_eq_startState]
    exact startState_atPowerOn _ _ _ _ _
  · exact (Counters.get_zero c).trans_le (Nat.zero_le _)
  · rw [State.reset_eq_startState]
    exact State.startState_gainLegal _ _ _ _ _

end Sys2Proof.Machine

/-! The two restarts (10.4): what each leaves at the end of its reply. -/

namespace Sys2Proof.Machine

/-! ### RESTART and the end of its reply -/

theorem ownRestart_full (s : State) :
    ownRestart 0 s = (stOk, { s with console := { s.console with restart := some .full } }) := rfl

theorem ownRestart_enforcement (s : State) :
    ownRestart 1 s = (stOk, { s with console := { s.console with restart := some .enforcement } }) := rfl

theorem ownRestart_refused {kind : Nat} (h : 2 ≤ kind) (s : State) : ownRestart kind s = (stBadField, s) := by
  unfold ownRestart
  rw [if_neg (by omega), if_neg (by omega)]

/-- The console after a reply's end: the line, the reply slot and the restart mark are free. -/
def State.replyEnded (s : State) : State :=
  { s with console := { s.console with line := none, reply := none, restart := none } }

section
variable {s : State} {f : ConFrame} (hl : s.console.line = some { what := .reply, frame := f }) (pins : Straps)
include hl

theorem State.frameSent_full (hr : s.console.restart = some .full) :
    s.frameSent pins = s.replyEnded.fullRestart pins := by
  simp only [State.frameSent, hl, hr]
  rfl

theorem State.frameSent_enforcement (hr : s.console.restart = some .enforcement) :
    s.frameSent pins = s.replyEnded.enforcementRestart := by
  simp only [State.frameSent, hl, hr]
  rfl

end

/-- The reports after a restart of a part that was, or was not, DARK. -/
theorem Reports.offer_empty (n : Notice) :
    Reports.empty.offer n = { queue := [{ number := 0, notice := n }], number := 1, counters := Counters.zero } := rfl

theorem State.fullRestart_eq (s : State) (pins : Straps) :
    s.fullRestart pins = { startState pins s.now s.freshAt (fun st => (s.engine st).stepAt) s.pending with
      reports := if s.standby.dark then Reports.empty.offer (.darkLeave .restart) else Reports.empty } := by
  unfold State.fullRestart
  dsimp only
  split <;> rfl

/-- Settles O6: RESTART at its owner, and the full restart at the end of its reply. -/
theorem fullRestartFollowsItsReply : Obligations.FullRestartFollowsItsReply := by
  refine ⟨fun s seq kind hopen => ?_, fun pins s f hrun hline hrestart => ?_⟩
  · intro takes
    have replies {b : List Byte} {u : State} (h : ownRestart kind.toNat s.huntConsole = (b, u.huntConsole)) :
        s.act (·.requestFrame 0x05 seq [kind]) = .next (u.replied 0x05 seq b).transmit :=
      State.request_owned hopen .restart seq rfl h
    refine ⟨fun hk => ?_, fun hk => ?_, fun hk => ?_⟩
    · subst hk
      exact replies (u := takes .full) (ownRestart_full _)
    · subst hk
      exact replies (u := takes .enforcement) (ownRestart_enforcement _)
    · exact replies (ownRestart_refused hk _)
  · refine ⟨s.frameSent pins, State.act_running hrun (·.frameSent pins), ?_⟩
    have started := startState_atPowerOn pins s.now s.freshAt (fun st => (s.engine st).stepAt) s.pending
    rw [State.frameSent_full hline pins hrestart, State.fullRestart_eq]
    refine ⟨started, rfl, rfl, rfl, fun st => ?_, rfl, rfl⟩
    have hst : (startState pins s.now s.freshAt (fun st => (s.engine st).stepAt) s.pending).engine st =
        startEngine pins.mode (s.engine st).stepAt := by simp [State.engine, startState]
    exact (congrArg Engine.stepAt hst).trans (startEngine_atPowerOn _ _).2

/-! ### The enforcement restart -/

/-- An engine at rest on its reduction with its hold timer restarted (R178). -/
def Engine.rested (e : Engine) (now : Nat) (x : EngineState) : Engine :=
  { ({ e with target := e.applied } : Engine).restartHold now with state := x, releaseAt := none }

theorem Engine.enforce_limiting {e : Engine} (hl : e.state.limiting = true) (now : Nat) :
    e.enforce now = { e with
      target := 0
      state := if e.applied = 0 then .opened else if e.hold = 0 then .easing else .holding
      holdAt := if e.hold = 0 then none else some (now + e.hold * Config.second)
      releaseAt := if e.applied ≠ 0 ∧ e.hold = 0 then some (now + Config.second) else none } := by
  have rested : e.enforce now = (e.rested now (if e.applied = 0 then .opened else .holding)).tell now 0 := by
    rw [Engine.enforce, if_pos hl]
    rfl
  rw [rested]
  by_cases h0 : e.applied = 0
  · rw [if_pos h0]
    refine (Engine.tell_opened rfl (Nat.zero_le _)).trans ?_
    simp [Engine.rested, Engine.restartHold, h0]
  · have hpos : 0 < e.applied := Nat.pos_of_ne_zero h0
    rw [if_neg h0]
    refine (Engine.tell_fall (e := e.rested now .holding) (.inr rfl) hpos).trans ?_
    by_cases hh : e.hold = 0
    · refine (Engine.toHolding_ease hpos (by simp [Engine.rested, Engine.restartHold, hh])).trans ?_
      simp [Engine.rested, Engine.restartHold, h0, hh]
    · refine (Engine.toHolding_hold (by simp [Engine.rested, Engine.restartHold, hh])).trans ?_
      simp [Engine.rested, Engine.restartHold, h0, hh]

theorem Engine.enforce_idle {e : Engine} (hl : e.state.limiting = false) (now : Nat) :
    e.enforce now = { e with target := 0 } := by
  unfold Engine.enforce
  rw [if_neg (by simp [hl])]
  exact Engine.tell_of_not_limiting hl

theorem Engine.enforce_eq (e : Engine) (now : Nat) :
    e.enforce now = { e with
      target := 0
      state :=
        if e.state.limiting then if e.applied = 0 then .opened else if e.hold = 0 then .easing else .holding
        else e.state
      holdAt :=
        if e.state.limiting then if e.hold = 0 then none else some (now + e.hold * Config.second) else e.holdAt
      releaseAt :=
        if e.state.limiting then if e.applied ≠ 0 ∧ e.hold = 0 then some (now + Config.second) else none
        else e.releaseAt } := by
  cases hl : e.state.limiting
  · rw [Engine.enforce_idle hl]
    rfl
  · rw [Engine.enforce_limiting hl]
    rfl

/-- Every stage quiet, no last L1 (R178). -/
def State.hushed (s : State) : State :=
  { s with standby := { s.standby with quiet := Vector.replicate 4 true, lastL1 := Vector.replicate 4 none } }

theorem State.enforceStandby_eq (s : State) :
    s.enforceStandby = (if s.standby.dark then s.hushed.leaveDark .restart else s.hushed).restartDark := rfl

theorem State.enforceStandby_light {s : State} (h : s.standby.dark = false) :
    s.enforceStandby = s.hushed.restartDark := by simp [State.enforceStandby_eq, h]

theorem State.enforceStandby_dark {s : State} (h : s.standby.dark = true) :
    s.enforceStandby = (s.hushed.leaveDark .restart).restartDark := by simp [State.enforceStandby_eq, h]

/-- With every mark quiet the dark timer runs exactly when the monitor is enabled and a meter stands. -/
theorem State.restartDark_quiet {s : State} (hd : s.standby.dark = false)
    (hq : s.standby.quiet = Vector.replicate 4 true) :
    s.restartDark.standby = { s.standby with
      dark := false
      timer := if s.standby.enable && allStages.any s.hasMeter
        then some (s.now + s.standby.darkTime * Config.second) else none } := by
  have hc : s.darkCondition = (s.standby.enable && allStages.any s.hasMeter) := by
    simp [State.darkCondition, hq]
  unfold State.restartDark
  rw [hc, if_neg (by simp [hd])]
  split <;> simp [State.startDarkTimer, State.stopDarkTimer, hd]

theorem State.enforceStandby_standby (s : State) :
    s.enforceStandby.standby = { s.standby with
      dark := false, quiet := Vector.replicate 4 true, lastL1 := Vector.replicate 4 none
      timer := if s.standby.enable && allStages.any s.hasMeter
        then some (s.now + s.standby.darkTime * Config.second) else none } := by
  cases h : s.standby.dark
  · rw [State.enforceStandby_light h, State.restartDark_quiet (s := s.hushed) h rfl]
    rfl
  · rw [State.enforceStandby_dark h, State.restartDark_quiet rfl rfl]
    rfl

theorem State.enforceStandby_reports (s : State) :
    s.enforceStandby.reports =
      if s.standby.dark then s.reports.offer (.darkLeave .restart) else s.reports := by
  cases h : s.standby.dark
  · rw [State.enforceStandby_light h, State.restartDark_reports]
    rfl
  · rw [State.enforceStandby_dark h, State.restartDark_reports]
    rfl

theorem State.enforceStandby_engine (s : State) (st : Stage) :
    s.enforceStandby.engine st =
      if s.standby.dark then (s.engine st).brightenRefresh s.now else s.engine st := by
  cases h : s.standby.dark
  · rw [State.enforceStandby_light h, State.engine, State.restartDark_engines]
    rfl
  · rw [State.enforceStandby_dark h, State.engine, State.restartDark_engines]
    simp [State.leaveDark, State.hushed, State.engine]

/-- A stage has a meter after an enforcement restart exactly when it had one. -/
theorem hasMeter_of_uses {s t : State} (h : ∀ p w, (t.slotAt p w).map Slot.use = (s.slotAt p w).map Slot.use)
    (st : Stage) : t.hasMeter st = s.hasMeter st := by
  have found {u v : State} (huv : ∀ p w, (u.slotAt p w).map Slot.use = (v.slotAt p w).map Slot.use)
      (hu : u.hasMeter st = true) : v.hasMeter st = true := by
    obtain ⟨sl, hsl, huse⟩ := State.hasMeter_iff.mp hu
    obtain ⟨p, w, hpw⟩ := State.mem_slots.mp hsl
    have hv := huv p w
    rw [hpw] at hv
    obtain ⟨sl', hsl', huse'⟩ := Option.map_eq_some_iff.mp hv.symm
    exact State.hasMeter_iff.mpr ⟨sl', State.mem_slots.mpr ⟨p, w, hsl'⟩, huse'.trans huse⟩
  exact Bool.eq_iff_iff.mpr ⟨found h, found fun p w => (h p w).symm⟩

theorem State.enforceStandby_parts (s : State) :
    s.enforceStandby = { s with
      engines := s.enforceStandby.engines
      reports := if s.standby.dark then s.reports.offer (.darkLeave .restart) else s.reports
      standby := s.enforceStandby.standby } := by
  rw [← s.enforceStandby_reports]
  obtain ⟨b, e, r, h⟩ := s.enforceStandby_frame
  rw [h]

/-- The enforcement restart before the standby monitor takes its part. -/
def State.enforced (s : State) : State :=
  { s with
    readings := { queue := [], holding := none }
    points := Vector.ofFn fun p : SetIx => (s.points[p]).enforce
    control := s.control.enforce
    engines := Vector.ofFn fun st : Stage => (s.engine st).enforce s.now
    reports := Reports.empty }

theorem State.enforcementRestart_eq (s : State) : s.enforcementRestart = s.enforced.enforceStandby := rfl

theorem State.enforced_engine (s : State) (st : Stage) : s.enforced.engine st = (s.engine st).enforce s.now := by
  simp [State.enforced, State.engine]

theorem State.enforced_hasMeter (s : State) (st : Stage) : s.enforced.hasMeter st = s.hasMeter st := by
  refine hasMeter_of_uses (fun p w => ?_) st
  have hp : s.enforced.slotAt p w = (s.slotAt p w).map Slot.enforce := by
    rw [← s.enforcementRestart_slotAt]
    simp [State.slotAt, State.enforcementRestart_eq]
  rw [hp, Option.map_map]
  rfl

/-- Settles O7: the enforcement restart, block by block. -/
theorem enforcementRestartKeepsWhatStands : Obligations.EnforcementRestartKeepsWhatStands := by
  intro pins s f hrun hline hrestart
  have parts := s.replyEnded.enforced.enforceStandby_parts
  refine ⟨s.replyEnded.enforcementRestart, ?_, ?_, fun p w => s.replyEnded.enforcementRestart_slotAt p w, fun p => ?_,
    fun st p => ⟨?_, ?_⟩, fun st => ?_, fun p => ?_, fun st => ?_, ?_⟩
  · rw [exec_consoleFrameSent, State.act_running hrun, State.frameSent_enforcement hline pins hrestart]
  · rw [State.enforcementRestart_eq, State.enforceStandby_points, State.enforceStandby_control]
    exact parts
  · rw [State.enforcementRestart_eq, parts]
    simp [State.enforced, PointSet.enforce, State.replyEnded]
  · rw [State.enforcementRestart_eq, parts]
    rfl
  · rw [State.enforcementRestart_eq, parts]
    exact State.needAt_enforce _ st p
  · rw [State.enforcementRestart_eq, parts]
    exact State.targets_enforce _ st
  · rw [State.enforcementRestart_eq, parts]
    simp [State.enforced, Control.enforce, State.reset]
  · rw [State.enforcementRestart_eq, State.enforceStandby_engine, State.enforced_engine, Engine.enforce_eq]
    show (if s.standby.dark then _ else _) = _
    split <;> rfl
  · rw [State.enforcementRestart_eq, State.enforceStandby_standby,
      funext (State.enforced_hasMeter s.replyEnded)]
    rfl

end Sys2Proof.Machine

/-! The meter inputs and the arrival side of the reading queue (chapter 2). -/

namespace Sys2Proof.Machine

/-! ### Frames and their characters (R17, R18) -/

theorem word16_bytes (w : Word16) : word16 (lowByte w) (highByte w) = w := by
  unfold word16 lowByte highByte
  rw [BitVec.extractLsb'_append_extractLsb'_eq_extractLsb' (by decide)]
  exact BitVec.extractLsb'_eq_self

theorem wordBytes_word16 (lo hi : Byte) : wordBytes (word16 lo hi) = [lo, hi] := by
  have low : lowByte (word16 lo hi) = lo := BitVec.extractLsb'_append_eq_right
  have high : highByte (word16 lo hi) = hi := BitVec.extractLsb'_append_eq_left
  rw [wordBytes, low, high]

/-- A frame is read back from its characters. -/
theorem readMeterFrame_bytes (f : MeterFrame) : readMeterFrame (meterBytes f) = some f := by
  simp [meterBytes, meterCovered, wordBytes, readMeterFrame, word16_bytes]

/-- What is read as a frame is spelled by its characters, but for the start byte. -/
theorem readMeterFrame_some {bs : List Byte} {f : MeterFrame} (h : readMeterFrame bs = some f)
    (h0 : bs[0]? = some 0xA5#8) : bs = meterBytes f := by
  unfold readMeterFrame at h
  split at h
  · next x k p0 p1 s0 s1 l0 l1 c0 c1 fl e0 e1 x0 x1 =>
    split at h
    · next hc =>
      obtain ⟨hcrc, rfl⟩ := hc
      cases h
      obtain rfl : x = 0xA5#8 := by simpa using h0
      simp [meterBytes, meterCovered, wordBytes_word16, hcrc]
    · cases h
  · cases h

/-! ### The reading queue (R33, R34) -/

section
variable {s : State}

theorem State.offerReading_joins (r : Reading) (h : s.readings.queue.length < 64) :
    s.offerReading r = { s with
      readings := { s.readings with queue := s.readings.queue ++ [{ r with overrun := false }] } } := by
  have hfull : s.readings.full = false := by simp [ReadingQueue.full, h]
  simp only [State.offerReading, hfull, if_true]

theorem State.offerReading_held (r : Reading) (h : 64 ≤ s.readings.queue.length) (hn : s.readings.holding = none) :
    s.offerReading r = { s with readings := { s.readings with holding := some { r with overrun := true } } } := by
  have hfull : s.readings.full = true := by simp [ReadingQueue.full, h]
  simp only [State.offerReading, hfull, Bool.true_eq_false, if_false, hn, Option.isSome_none, Bool.false_eq_true]

theorem State.offerReading_overwrites (r : Reading) {old : Reading} (h : 64 ≤ s.readings.queue.length)
    (ho : s.readings.holding = some old) :
    s.offerReading r = { s with
      readings := { s.readings with holding := some { r with overrun := true } }
      reports := s.reports.count overruns } := by
  have hfull : s.readings.full = true := by simp [ReadingQueue.full, h]
  simp only [State.offerReading, hfull, Bool.true_eq_false, if_false, ho, Option.isSome_some, if_true]
  rfl

theorem State.takeReading_empty (h : s.readings.queue = []) : s.takeReading = s := by
  simp [State.takeReading, ReadingQueue.remove, h]

theorem State.takeReading_head {r : Reading} {rest : List Reading} (h : s.readings.queue = r :: rest) :
    s.takeReading = State.processReading
      { s with readings := { queue := rest ++ s.readings.holding.toList, holding := none } } r := by
  simp only [State.takeReading, ReadingQueue.remove, h]
  cases s.readings.holding with
  | none => simp only [Option.toList_none, List.append_nil]
  | some held => rfl

end

/-- Settles O11: the arrival side and the removal of the reading queue. -/
theorem readingQueueTakesAndGives : Obligations.ReadingQueueTakesAndGives :=
  ⟨fun _ r => ⟨State.offerReading_joins r, State.offerReading_held r, fun _ => State.offerReading_overwrites r⟩,
    fun _ hrun => ⟨fun h => by rw [exec_reading, State.act_running hrun, State.takeReading_empty h],
      fun r rest h => by rw [exec_reading, State.act_running hrun, State.takeReading_head h]⟩⟩

/-! ### The conversion (R31, R32) -/

theorem clamp_eq (lo hi n : Nat) : clamp lo hi n = max lo (min hi n) := rfl

/-- Settles O12: the conversion's clamps and marks. -/
theorem conversionClampsTheFrame : Obligations.ConversionClampsTheFrame := fun _ =>
  ⟨rfl, rfl, rfl, clamp_eq _ _ _, clamp_eq _ _ _, decide_eq_true_iff, rfl, rfl, rfl, rfl⟩

/-! ### Receivers (R20 to R22) -/

theorem badFrames_eq (i : Input) : badFrames i = .device (if i = .a then 0 else 1) := by
  cases i <;> rfl

theorem State.dropMeterFrame_eq (s : State) (i : Input) :
    s.dropMeterFrame i = { s with
      meter := { s.meter with rx := s.meter.rx.put i .hunt }
      reports := s.reports.count (.device (if i = .a then 0 else 1)) } := by
  rw [← badFrames_eq]
  rfl

section
variable {s : State} {i : Input} {bs : List Byte} {due : Nat}

theorem State.meterBreak_hunt (h : s.meter.rx.get i = .hunt) : s.meterBreak i = s := by
  simp only [State.meterBreak, h]

theorem State.meterBreak_collecting (h : s.meter.rx.get i = .collecting bs due) :
    s.meterBreak i = s.dropMeterFrame i := by
  simp only [State.meterBreak, h]

theorem State.meterGapExpiry_hunt (h : s.meter.rx.get i = .hunt) : s.meterGapExpiry i = s := by
  simp only [State.meterGapExpiry, h]

theorem State.meterGapExpiry_collecting (h : s.meter.rx.get i = .collecting bs due) :
    s.meterGapExpiry i = (s.reach due).dropMeterFrame i := by
  simp only [State.meterGapExpiry, h]

theorem State.meterCharacter_faulty (c : Byte) : s.meterCharacter i c false = s.meterBreak i := rfl

theorem State.meterCharacter_hunt (h : s.meter.rx.get i = .hunt) (c : Byte) :
    s.meterCharacter i c true = if c = 0xA5#8 then s.collectMeter i [c] else s := by
  simp only [State.meterCharacter, h, Bool.true_eq_false, if_false]

theorem State.meterCharacter_gathers (h : s.meter.rx.get i = .collecting bs due) (hl : bs.length < 14) (c : Byte) :
    s.meterCharacter i c true = s.collectMeter i (bs ++ [c]) := by
  have hl' : bs.length + 1 < 15 := by omega
  simp only [State.meterCharacter, h, Bool.true_eq_false, if_false, hl', if_true]

theorem State.meterCharacter_completes (h : s.meter.rx.get i = .collecting bs due) (hl : bs.length = 14) (c : Byte) :
    s.meterCharacter i c true = s.completeMeterFrame i (bs ++ [c]) := by
  simp only [State.meterCharacter, h, Bool.true_eq_false, if_false, hl, Nat.lt_irrefl]

theorem State.completeMeterFrame_drops (h0 : bs[0]? = some 0xA5#8) (h : ∀ f, bs ≠ meterBytes f) :
    s.completeMeterFrame i bs = s.dropMeterFrame i := by
  have hnone : readMeterFrame bs = none :=
    Option.eq_none_iff_forall_not_mem.mpr fun f hf => h f (readMeterFrame_some hf h0)
  simp only [State.completeMeterFrame, hnone]

end

/-- Settles O13: what drops a frame in progress, and what finds none. -/
theorem droppedFramesAreCounted : Obligations.DroppedFramesAreCounted := by
  intro inp s hrun dropped
  have drops : s.dropMeterFrame inp = dropped := s.dropMeterFrame_eq inp
  have dropsAt (n : Nat) : (s.reach n).dropMeterFrame inp = { dropped with now := max s.now n } :=
    (s.reach n).dropMeterFrame_eq inp
  refine ⟨?_, fun h => ⟨?_, ?_⟩, fun bs due h => ⟨?_, ?_⟩⟩
  · rw [exec_badFrame, State.act_running hrun, drops]
  · rw [exec_meterFrameGapExpiry, State.act_running hrun, State.meterGapExpiry_hunt h]
  · rw [exec_meterLineBreak, State.act_running hrun, State.meterBreak_hunt h]
  · rw [exec_meterFrameGapExpiry, State.act_running hrun, State.meterGapExpiry_collecting h, dropsAt]
  · rw [exec_meterLineBreak, State.act_running hrun, State.meterBreak_collecting h, drops]

/-- Settles O14: a receiver's answer to a character, state by state. -/
theorem meterReceiverTakesCharacters : Obligations.MeterReceiverTakesCharacters := by
  intro inp c s hrun gathers dropped
  have drops : s.dropMeterFrame inp = dropped := s.dropMeterFrame_eq inp
  have taken (good : Bool) : exec (.meterCharacterReceived inp c good) s = .next (s.meterCharacter inp c good).transmit :=
    State.act_running hrun (·.meterCharacter inp c good)
  refine ⟨fun h => ⟨?_, ?_⟩, fun bs due h => ⟨?_, fun hl => ?_, fun hl h0 hf => ?_⟩⟩
  · rw [taken, State.meterCharacter_faulty, State.meterBreak_hunt h]
  · rw [taken, State.meterCharacter_hunt h]
    rfl
  · rw [taken, State.meterCharacter_faulty, State.meterBreak_collecting h, drops]
  · rw [taken, State.meterCharacter_gathers h hl]
    rfl
  · have h0' : (bs ++ [c])[0]? = some 0xA5#8 := by
      rw [List.getElem?_append_left (by omega), h0]
    rw [taken, State.meterCharacter_completes h hl, State.completeMeterFrame_drops h0' hf, drops]

/-! ### Frames whole, character by character -/

/-- The receiver has gathered some characters; the timer runs from the last. -/
theorem State.collectMeter_gathers (s : State) (i : Input) (bs : List Byte) (c : Byte) (hl : bs.length < 14) :
    (s.collectMeter i bs).meterCharacter i c true = s.collectMeter i (bs ++ [c]) := by
  have hrx : (s.collectMeter i bs).meter.rx.get i = .collecting bs (s.now + Config.meterGap) := by
    simp [State.collectMeter]
  rw [State.meterCharacter_gathers hrx hl]
  simp [State.collectMeter]

/-- Settled transmitters have nothing to choose. -/
theorem State.transmit_of_settled {s : State} (h : s.Settled) : s.transmit = s := by
  obtain ⟨horder, hframe⟩ := h
  have order : s.chooseOrder = s := by
    by_cases hl : s.link.line = none
    · exact State.chooseOrder_nothingDue (horder hl)
    · exact State.chooseOrder_busy hl
  have frame : s.chooseFrame = s := by
    cases hl : s.console.line with
    | some f => simp only [State.chooseFrame, hl]
    | none =>
      obtain ⟨hr, hx, hq⟩ := hframe hl
      simp only [State.chooseFrame, hl, hr, State.exportFrame_eq_none_iff.mpr hx, hq]
  unfold State.transmit
  rw [order, frame, ite_self]

/-- The rest of a valid frame's characters do what the frame does whole. -/
theorem execAll_meterCharacters {s : State} {i : Input} {f : MeterFrame} (hrun : s.held = false) (hs : s.Settled)
    (cs : List Byte) {bs : List Byte} (hf : bs ++ cs = meterBytes f) (hne : cs ≠ []) :
    execAll (cs.map fun c => .meterCharacterReceived i c true) (s.collectMeter i bs) =
      .next ((s.huntMeter i).validFrame i f).transmit := by
  have length (x : Nat) (h : bs.length + cs.length = x) : x = 15 := by
    rw [← h, ← List.length_append, hf]
    rfl
  have acts (bs : List Byte) (c : Byte) : exec (.meterCharacterReceived i c true) (s.collectMeter i bs) =
      .next ((s.collectMeter i bs).meterCharacter i c true).transmit :=
    State.act_running (s := s.collectMeter i bs) hrun (·.meterCharacter i c true)
  induction cs generalizing bs with
  | nil => exact absurd rfl hne
  | cons c cs ih =>
    cases cs with
    | nil =>
      have hlast : bs.length = 14 := by
        have := length _ rfl
        simp only [List.length_singleton] at this
        omega
      have hrx : (s.collectMeter i bs).meter.rx.get i = .collecting bs (s.now + Config.meterGap) := by
        simp [State.collectMeter]
      have hhunt : (s.collectMeter i bs).huntMeter i = s.huntMeter i := by
        simp [State.collectMeter, State.huntMeter]
      simp only [List.map_cons, List.map_nil, execAll, acts]
      rw [State.meterCharacter_completes hrx hlast, hf, State.completeMeterFrame, readMeterFrame_bytes]
      dsimp only
      rw [hhunt]
    | cons c' cs =>
      have hshort : bs.length < 14 := by
        have := length _ rfl
        simp only [List.length_cons] at this
        omega
      have hf' : (bs ++ [c]) ++ (c' :: cs) = meterBytes f := by
        rw [List.append_assoc]
        exact hf
      have hset : (s.collectMeter i (bs ++ [c])).Settled := hs
      rw [List.map_cons, execAll, acts, s.collectMeter_gathers i bs c hshort, State.transmit_of_settled hset]
      refine ih hf' (by simp) fun x hx => ?_
      rw [← hx, ← List.length_append, hf']
      rfl

/-- Settles O9: the first character starts the frame, and the rest complete it. -/
theorem meterCharactersSpellTheFrame : Obligations.MeterCharactersSpellTheFrame := by
  intro inp f s hrun hquiet hhunt
  have settled : s.Settled := hquiet ▸ s.transmit_settled hrun
  have first : exec (.meterCharacterReceived inp 0xA5#8 true) s = .next (s.collectMeter inp [0xA5#8]).transmit := by
    rw [exec_meterCharacterReceived, State.act_running hrun, State.meterCharacter_hunt hhunt, if_pos rfl]
  have hset : (s.collectMeter inp [0xA5#8]).Settled := settled
  have whole : exec (.meterReadingFrame inp f) s = .next ((s.huntMeter inp).validFrame inp f).transmit :=
    State.act_running hrun fun t => (t.huntMeter inp).validFrame inp f
  obtain ⟨cs, hcs, hne⟩ : ∃ cs, meterBytes f = 0xA5#8 :: cs ∧ cs ≠ [] := ⟨_, rfl, by simp [meterCovered]⟩
  rw [hcs, List.map_cons, execAll, first, State.transmit_of_settled hset, whole]
  exact execAll_meterCharacters hrun settled cs hcs.symm hne

/-! ### A valid frame's effect (R24, R27 to R29) -/

/-- The receiver's input is heard: HUNT and a fresh alive timer (R24). -/
def State.heard (s : State) (i : Input) : State := (s.huntMeter i).restartAlive i

/-- What a valid frame does before its reading is offered (R24, R27, R28). -/
def State.framed (s : State) (i : Input) : State :=
  (if (s.heard i).auto = true ∧ i ≠ (s.heard i).meter.active ∧ (s.heard i).meter.isAlive (s.heard i).meter.active = false
    then (s.heard i).switchInput i .revival else s.heard i).startReturn i (s.meter.isAlive i)

theorem State.validFrame_eq (s : State) (i : Input) (f : MeterFrame) :
    (s.huntMeter i).validFrame i f =
      if i = (s.framed i).meter.active then (s.framed i).offerReading (convert f) else s.framed i := rfl

theorem Input.eq_other {i j : Input} (h : i ≠ j) : j = otherInput i := by
  cases i <;> cases j <;> simp_all [otherInput]

theorem State.auto_iff (s : State) : s.auto = true ↔ s.straps.pref.val ≥ 2 := decide_eq_true_iff

theorem MeterUnit.isAlive_eq_false (m : MeterUnit) (i : Input) : m.isAlive i = false ↔ m.alive.get i = none := by
  simp [MeterUnit.isAlive]

theorem State.heard_isAlive (s : State) (i j : Input) :
    (s.heard i).meter.isAlive j = if j = i then true else s.meter.isAlive j := by
  simp only [State.heard, State.restartAlive, State.huntMeter, MeterUnit.isAlive]
  split
  · next h => simp [h]
  · next h => rw [PerInput.get_put_of_ne _ _ h]

section
variable {s : State} {i : Input}

theorem State.framed_revives (hauto : s.auto = true) (hne : i ≠ s.meter.active)
    (hdead : s.meter.isAlive s.meter.active = false) : s.framed i = (s.heard i).switchInput i .revival := by
  have hc : (s.heard i).auto = true ∧ i ≠ (s.heard i).meter.active ∧
      (s.heard i).meter.isAlive (s.heard i).meter.active = false :=
    ⟨hauto, hne, (s.heard_isAlive i s.meter.active).trans ((if_neg (Ne.symm hne)).trans hdead)⟩
  rw [State.framed, if_pos hc, State.startReturn, if_neg]
  rintro ⟨-, -, -, hactive, -⟩
  exact otherInput_ne i hactive.symm

theorem State.framed_stands (h : ¬(s.auto = true ∧ i ≠ s.meter.active ∧ s.meter.isAlive s.meter.active = false)) :
    s.framed i = (s.heard i).startReturn i (s.meter.isAlive i) := by
  rw [State.framed, if_neg]
  rintro ⟨hauto, hne, hdead⟩
  have hne' : i ≠ s.meter.active := hne
  rw [s.heard_isAlive, if_neg (show (s.heard i).meter.active ≠ i from Ne.symm hne)] at hdead
  exact h ⟨hauto, hne', hdead⟩

/-- The return timer after a frame that does not move the active input (R28). -/
theorem State.startReturn_heard (s : State) (i : Input) :
    (s.heard i).startReturn i (s.meter.isAlive i) = { s.heard i with
      meter := { (s.heard i).meter with
        returnAt :=
          if s.auto = true ∧ i = s.preferred ∧ s.meter.isAlive i = false ∧ s.meter.active = otherInput i ∧
              s.meter.isAlive (otherInput i) = true
          then some (s.now + Config.returnTime) else s.meter.returnAt } } := by
  have other : (s.heard i).meter.isAlive (otherInput i) = s.meter.isAlive (otherInput i) := by
    rw [s.heard_isAlive, if_neg (otherInput_ne i)]
  rw [State.startReturn, other]
  by_cases h : s.auto = true ∧ i = s.preferred ∧ s.meter.isAlive i = false ∧ s.meter.active = otherInput i ∧
      s.meter.isAlive (otherInput i) = true
  · rw [if_pos h]
    exact if_pos h
  · rw [if_neg h]
    exact if_neg h

end

/-- Settles O10: a valid frame with and without a revival. -/
theorem validFrameActsOnItsInput : Obligations.ValidFrameActsOnItsInput := by
  intro inp f s hrun
  have acts : exec (.meterReadingFrame inp f) s = .next ((s.huntMeter inp).validFrame inp f).transmit :=
    State.act_running hrun fun t => (t.huntMeter inp).validFrame inp f
  refine ⟨s.framed inp, by rw [acts, State.validFrame_eq], ?_⟩
  simp only [← State.auto_iff, ← MeterUnit.isAlive_eq_false]
  by_cases h : s.auto = true ∧ inp ≠ s.meter.active ∧ s.meter.isAlive s.meter.active = false
  · rw [if_pos h, State.framed_revives h.1 h.2.1 h.2.2]
    refine ⟨rfl, rfl, rfl, rfl, rfl, ?_⟩
    have alive (j : Input) : (s.heard inp).meter.isAlive j = decide (inp = j) := by
      rw [s.heard_isAlive]
      by_cases hj : j = inp
      · simp [hj]
      · have hactive : j = s.meter.active := (Input.eq_other (Ne.symm hj)).trans (Input.eq_other h.2.1).symm
        rw [if_neg hj, hactive, h.2.2, decide_eq_false h.2.1]
    rw [← alive, ← alive]
    rfl
  · rw [if_neg h, State.framed_stands h, State.startReturn_heard]
    refine ⟨rfl, rfl, rfl, rfl, rfl, ?_⟩
    have hactive : s.meter.active = otherInput inp ↔ s.meter.active ≠ inp :=
      ⟨fun h => h ▸ otherInput_ne inp, fun h => Input.eq_other h.symm⟩
    simp only [hactive]
    rfl

/-! ### Expiries (R25, R26, R28) -/

/-- An input's alive timer has expired. -/
def State.died (s : State) (i : Input) (due : Nat) : State :=
  { s with now := max s.now due, meter := { s.meter with alive := s.meter.alive.put i none } }

theorem State.died_isAlive (s : State) (i j : Input) (due : Nat) :
    (s.died i due).meter.isAlive j = if j = i then false else s.meter.isAlive j := by
  simp only [State.died, MeterUnit.isAlive]
  split
  · next h => simp [h]
  · next h => rw [PerInput.get_put_of_ne _ _ h]

theorem State.aliveExpiry_eq {s : State} {i : Input} {due : Nat} (h : s.meter.alive.get i = some due) :
    s.aliveExpiry i =
      if s.auto = false then s.died i due
      else if i = s.meter.active then
        if s.meter.isAlive (otherInput i) then (s.died i due).switchInput (otherInput i) .failover else s.died i due
      else if i = s.preferred then
        { s.died i due with meter := { (s.died i due).meter with returnAt := none } }
      else s.died i due := by
  have other : (s.died i due).meter.isAlive (otherInput i) = s.meter.isAlive (otherInput i) := by
    rw [s.died_isAlive, if_neg (otherInput_ne i)]
  rw [← other]
  simp only [State.aliveExpiry, h]
  rfl

/-- Settles O15: the two timers' expiries. -/
theorem aliveAndReturnTimersMoveTheActiveInput : Obligations.AliveAndReturnTimersMoveTheActiveInput := by
  refine ⟨fun inp s hrun => ⟨fun h => ?_, fun due h => ?_⟩, fun s hrun => ⟨fun h => ?_, fun due h => ?_⟩⟩
  · rw [exec_aliveTimerExpiry, State.act_running hrun, State.aliveExpiry, h]
  · intro dead lives
    rw [exec_aliveTimerExpiry, State.act_running hrun, State.aliveExpiry_eq h]
    have hauto : s.auto = false ↔ s.straps.pref.val < 2 := by
      rw [← Bool.not_eq_true, s.auto_iff, ge_iff_le, Nat.not_le]
    have alive (j : Input) (hl : s.meter.isAlive (otherInput inp) = true) :
        (s.died inp due).meter.isAlive j = decide (j = otherInput inp) := by
      rw [s.died_isAlive]
      by_cases hj : j = inp
      · simp [hj, (otherInput_ne inp).symm]
      · simp [Input.eq_other (Ne.symm hj), hl, otherInput_ne]
    have switched (hi : inp = s.meter.active) (hl : s.meter.isAlive (otherInput inp) = true) :
        (s.died inp due).switchInput (otherInput inp) .failover = { dead with
          meter := { dead.meter with active := otherInput inp, returnAt := none }
          reports := s.reports.offer
            (.meterInputSwitch inp (otherInput inp) .failover (decide (inp = .b)) (decide (inp = .a))) } := by
      have ha : decide (inp = .b) = decide (Input.a = otherInput inp) := by cases inp <;> rfl
      have hb : decide (inp = .a) = decide (Input.b = otherInput inp) := by cases inp <;> rfl
      rw [ha, hb, ← alive _ hl, ← alive _ hl, State.switchInput,
        show (s.died inp due).meter.active = inp from hi.symm]
      rfl
    simp only [hauto]
    let next (u : State) : Host.Outcome State Fault Refusal := .next u.transmit
    by_cases hpref : s.straps.pref.val < 2
    · rw [if_pos hpref, if_pos hpref]
      rfl
    rw [if_neg hpref, if_neg hpref]
    by_cases hi : inp = s.meter.active
    · rw [if_pos hi, if_pos hi]
      by_cases hl : s.meter.isAlive (otherInput inp) = true
      · rw [if_pos hl, switched hi hl]
        exact congrArg next (if_pos hl).symm
      · rw [if_neg hl]
        exact congrArg next (if_neg hl).symm
    · rw [if_neg hi, if_neg hi]
      rfl
  · rw [exec_returnTimerExpiry, State.act_running hrun, State.returnExpiry, h]
  · rw [exec_returnTimerExpiry, State.act_running hrun, State.returnExpiry, h]
    rfl

/-! ### Repeated and late readings (R57, R58) -/

theorem classify_repeated (l : Word16) : classify (some l) l = .duplicate := by
  simp [classify]

theorem classify_late {l x : Word16} (h : 32769 ≤ (x - l).toNat) : classify (some l) x = .late := by
  have h0 : ¬(x - l).toNat = 0 := by omega
  have h1 : ¬(x - l).toNat ≤ 960 := by omega
  have h2 : ¬(x - l).toNat ≤ 32768 := by omega
  simp only [classify, h0, h1, h2, if_false]

/-- A reading of a point that its set holds goes to the window engine at once. -/
theorem State.processReading_present {s : State} {r : Reading} {w : Way}
    (h : (s.points[setOf r.point]).find r.point = some w) :
    s.processReading r = s.windowWork (setOf r.point) w r := by
  simp only [State.processReading, State.seat, h]

section
variable {s : State} {p : SetIx} {w : Way} {sl : Slot} {r : Reading} (hslot : s.slotAt p w = some sl)
include hslot

theorem State.windowWork_repeated (h : sl.win.lastStamp = some r.stamp) : s.windowWork p w r = s.count duplicates := by
  simp only [State.windowWork, hslot, h, classify_repeated]

theorem State.windowWork_late {l : Word16} (h : sl.win.lastStamp = some l) (hl : 32769 ≤ (r.stamp - l).toNat) :
    s.windowWork p w r = s.count lateReadings := by
  simp only [State.windowWork, hslot, h, classify_late hl]

end

/-- Settles O16: the two discards. -/
theorem repeatedAndLateReadingsOnlyCount : Obligations.RepeatedAndLateReadingsOnlyCount := by
  intro s r rest w sl last hrun hqueue hfind hslot hstamp counted
  have taken {c : CounterId} (hw : ∀ u : State, u.slotAt (setOf r.point) w = some sl →
      u.windowWork (setOf r.point) w r = u.count c) : exec .reading s = .next (counted c).transmit := by
    have work (u : State) (hp : u.points = s.points) : u.processReading r = u.count c := by
      have hf : (u.points[setOf r.point]).find r.point = some w := by rw [hp, hfind]
      have hu : u.slotAt (setOf r.point) w = some sl := by
        unfold State.slotAt at hslot ⊢
        rw [hp, hslot]
      rw [State.processReading_present hf, hw u hu]
    rw [exec_reading, State.act_running hrun, State.takeReading_head hqueue, work]
    · rfl
    · rfl
  refine ⟨fun h => taken fun u hu => State.windowWork_repeated hu (h ▸ hstamp),
    fun h => taken fun u hu => State.windowWork_late hu hstamp h⟩

end Sys2Proof.Machine

/-! Level recovery on the energy scale (1.1, 1.2) and the exceedance state (4.5). -/

namespace Sys2Proof.Machine

/-! ### The mantissa table (R2) -/

theorem mantissas_pairwise : mantissas.Pairwise (· < ·) :=
  List.isChain_iff_pairwise.mp (by simp [mantissas])

theorem mantissa_strictMono {r t : Nat} (h : r < t) (ht : t < 100) : mantissa r < mantissa t := by
  have hlt : t < mantissas.length := ht
  rw [mantissa, mantissa, List.getD_eq_getElem _ _ (h.trans hlt), List.getD_eq_getElem _ _ hlt]
  exact List.pairwise_iff_getElem.mp mantissas_pairwise _ _ _ _ h

theorem mantissa_lt (r : Fin 100) : 1000 ≤ mantissa r ∧ mantissa r < 10000 := by
  revert r
  decide

/-- In a rising list the entries not above a bound come first. -/
theorem lt_length_filter_le {l : List Nat} (h : l.Pairwise (· < ·)) (y : Nat) {r : Nat} (hr : r < l.length) :
    r < (l.filter fun t => decide (t ≤ y)).length ↔ l[r] ≤ y := by
  induction l generalizing r with
  | nil => cases hr
  | cons a l ih =>
    obtain ⟨ha, hl⟩ := List.pairwise_cons.mp h
    by_cases hay : a ≤ y
    · rw [List.filter_cons_of_pos (by simpa using hay)]
      cases r with
      | zero => simp [hay]
      | succ r =>
        rw [List.length_cons, Nat.succ_lt_succ_iff, List.getElem_cons_succ]
        exact ih hl (by simpa using hr)
    · have hnone : (a :: l).filter (fun t => decide (t ≤ y)) = [] := by
        refine List.filter_eq_nil_iff.mpr fun t ht => ?_
        rcases List.mem_cons.mp ht with rfl | ht
        · simpa using hay
        · have := ha t ht
          simp only [decide_eq_true_eq]
          omega
      have hge : a ≤ (a :: l)[r] := by
        cases r with
        | zero => exact le_rfl
        | succ r => exact (ha _ (List.getElem_mem _)).le
      rw [hnone]
      simp only [List.length_nil, Nat.not_lt_zero, false_iff]
      omega

/-- The index R4 looks up is the greatest whose mantissa is not above the figure. -/
theorem le_mantissaIndex_iff {y : Nat} (hy : 1000 ≤ y) (r : Fin 100) : r.val ≤ mantissaIndex y ↔ mantissa r ≤ y := by
  have count (r : Fin 100) : r.val < (mantissas.filter fun t => decide (t ≤ y)).length ↔ mantissa r ≤ y := by
    have hr : r.val < mantissas.length := r.isLt
    rw [lt_length_filter_le mantissas_pairwise y hr, mantissa, List.getD_eq_getElem _ _ hr]
  have first := (count 0).mpr (show mantissa 0 ≤ y from hy)
  rw [← count, mantissaIndex]
  omega

theorem mantissaIndex_lt (y : Nat) : mantissaIndex y < 100 := by
  have h : (mantissas.filter fun t => decide (t ≤ y)).length ≤ 100 := List.length_filter_le _ _
  rw [mantissaIndex]
  omega

/-! ### Decimal digits (R4) -/

theorem lt_digitsUpTo {fuel d x : Nat} (h : 10 ^ d ≤ x) (hd : d < fuel) : d < digitsUpTo fuel x := by
  induction fuel generalizing d x with
  | zero => cases hd
  | succ n ih =>
    rw [digitsUpTo]
    cases d with
    | zero => split <;> omega
    | succ d =>
      have hx : 10 ^ d ≤ x / 10 := (Nat.le_div_iff_mul_le (by decide)).mpr (by rwa [← pow_succ])
      have h10 : ¬x < 10 := fun hlt => by
        rw [Nat.div_eq_of_lt hlt] at hx
        exact absurd hx (Nat.not_le.mpr (by positivity))
      rw [if_neg h10]
      have := ih hx (by omega)
      omega

theorem digitsUpTo_le {fuel d x : Nat} (h : x < 10 ^ (d + 1)) : digitsUpTo fuel x ≤ d + 1 := by
  induction fuel generalizing d x with
  | zero => exact Nat.zero_le _
  | succ n ih =>
    rw [digitsUpTo]
    split
    · omega
    · cases d with
      | zero => omega
      | succ d =>
        have hx : x / 10 < 10 ^ (d + 1) := Nat.div_lt_of_lt_mul (by rwa [← pow_succ'])
        have := ih hx
        omega

/-! ### Recovery (R5) -/

theorem code_eq {l : Nat} (h : 300 ≤ l) : ∃ a r, r < 100 ∧ l = 300 + 100 * a + r :=
  ⟨(l - 300) / 100, (l - 300) % 100, Nat.mod_lt _ (by decide), by omega⟩

theorem energy_eq {a r : Nat} (hr : r < 100) : energy (300 + 100 * a + r) = mantissa r * 10 ^ a := by
  have h1 : (300 + 100 * a + r - 300) % 100 = r := by omega
  have h2 : (300 + 100 * a + r - 300) / 100 = a := by omega
  rw [energy, h1, h2]

/-- Recovery answers a code of at least l exactly when the energy reaches that of l. -/
theorem le_recover_iff {l x : Nat} (hl : 300 ≤ l) (hl' : l ≤ 1400) (hx : 1000 ≤ x) : l ≤ recover x ↔ energy l ≤ x := by
  obtain ⟨a, r, hr, rfl⟩ := code_eq hl
  obtain ⟨hlo, hhi⟩ := mantissa_lt ⟨r, hr⟩
  rw [energy_eq hr]
  have below (d : Nat) (had : a < d) (hd : 10 ^ (d + 3) ≤ x) : mantissa r * 10 ^ a ≤ x := by
    calc mantissa r * 10 ^ a ≤ 10 ^ 4 * 10 ^ a := Nat.mul_le_mul_right _ hhi.le
      _ = 10 ^ (a + 4) := by rw [← pow_add, add_comm]
      _ ≤ 10 ^ (d + 3) := Nat.pow_le_pow_right (by decide) (by omega)
      _ ≤ x := hd
  obtain ⟨q, hq⟩ : ∃ q, digits x = q + 4 := by
    have : 3 < digits x := lt_digitsUpTo (d := 3) hx (by decide)
    exact ⟨digits x - 4, by omega⟩
  have hqle : 10 ^ (q + 3) ≤ x := by
    by_contra hlt
    have := digitsUpTo_le (fuel := 64) (not_le.mp hlt)
    rw [← digits, hq] at this
    omega
  rw [recover, if_neg (by omega), hq, Nat.add_sub_cancel]
  dsimp only
  by_cases hbig : 11 < q
  · rw [if_pos hbig]
    exact iff_of_true hl' (below q (by omega) hqle)
  rw [if_neg hbig]
  have hqlt : x < 10 ^ (q + 4) := by
    by_contra hge
    have := lt_digitsUpTo (fuel := 64) (not_lt.mp hge) (by omega)
    rw [← digits, hq] at this
    omega
  have hy : 1000 ≤ x / 10 ^ q := by
    rw [Nat.le_div_iff_mul_le (by positivity)]
    calc 1000 * 10 ^ q = 10 ^ (q + 3) := by rw [pow_add]; ring
      _ ≤ x := hqle
  have hi := mantissaIndex_lt (x / 10 ^ q)
  rcases lt_trichotomy a q with haq | rfl | haq
  · refine iff_of_true ?_ (below q haq hqle)
    omega
  · rw [← Nat.le_div_iff_mul_le (by positivity), ← le_mantissaIndex_iff hy ⟨r, hr⟩]
    dsimp only
    omega
  · refine iff_of_false (by omega) (not_le.mpr (hqlt.trans_le ?_))
    calc 10 ^ (q + 4) ≤ 10 ^ (a + 3) := Nat.pow_le_pow_right (by decide) (by omega)
      _ = 1000 * 10 ^ a := by rw [pow_add]; ring
      _ ≤ mantissa r * 10 ^ a := Nat.mul_le_mul_right _ hlo

theorem recover_range (x : Nat) : 300 ≤ recover x ∧ recover x ≤ 1400 := by
  rw [recover]
  dsimp only
  split
  · exact ⟨le_rfl, by decide⟩
  · split
    · exact ⟨by decide, le_rfl⟩
    · omega

theorem energy_recover_le {x : Nat} (hx : 1000 ≤ x) : energy (recover x) ≤ x :=
  (le_recover_iff (recover_range x).1 (recover_range x).2 hx).mp le_rfl

theorem energy_ge {l : Nat} : 1000 ≤ energy l := by
  obtain ⟨hlo, -⟩ := mantissa_lt ⟨(l - 300) % 100, Nat.mod_lt _ (by decide)⟩
  exact hlo.trans (Nat.le_mul_of_pos_right _ (by positivity))

theorem energy_lt {l l' : Nat} (h : 300 ≤ l) (hlt : l < l') : energy l < energy l' := by
  obtain ⟨a, r, hr, rfl⟩ := code_eq h
  obtain ⟨b, t, ht, rfl⟩ := code_eq (h.trans hlt.le)
  rw [energy_eq hr, energy_eq ht]
  obtain ⟨-, hhi⟩ := mantissa_lt ⟨r, hr⟩
  obtain ⟨hlo, -⟩ := mantissa_lt ⟨t, ht⟩
  rcases (show a ≤ b by omega).lt_or_eq with hab | rfl
  · calc mantissa r * 10 ^ a < 10 ^ 4 * 10 ^ a := Nat.mul_lt_mul_of_pos_right hhi (by positivity)
      _ = 10 ^ (a + 4) := by rw [← pow_add, add_comm]
      _ ≤ 10 ^ (b + 3) := Nat.pow_le_pow_right (by decide) (by omega)
      _ = 1000 * 10 ^ b := by rw [pow_add]; ring
      _ ≤ mantissa t * 10 ^ b := Nat.mul_le_mul_right _ hlo
  · exact Nat.mul_lt_mul_of_pos_right (mantissa_strictMono (by omega) ht) (by positivity)

theorem recover_mono {x y : Nat} (h : x ≤ y) : recover x ≤ recover y := by
  by_cases hx : x < 1000
  · rw [recover, if_pos hx]
    exact (recover_range y).1
  · have hx' : 1000 ≤ x := not_lt.mp hx
    exact (le_recover_iff (recover_range x).1 (recover_range x).2 (hx'.trans h)).mpr ((energy_recover_le hx').trans h)

theorem recover_energy {l : Nat} (h : 300 ≤ l) (h' : l ≤ 1400) : recover (energy l) = l := by
  refine le_antisymm (not_lt.mp fun hlt => ?_) ((le_recover_iff h h' energy_ge).mpr le_rfl)
  exact absurd (energy_recover_le energy_ge) (not_le.mpr (energy_lt h hlt))

/-- Settles O20: recovery is the lower adjoint of the energy scale. -/
theorem recoveryRoundsDownOnTheScale : Obligations.RecoveryRoundsDownOnTheScale :=
  ⟨by decide, by decide, fun _ _ h hlt _ => energy_lt h hlt,
    fun x hx _ => ⟨(recover_range x).1, (recover_range x).2, energy_recover_le hx,
      fun _ h h' he => (le_recover_iff h h' hx).mpr he⟩,
    fun _ => recover_energy, fun _ _ => recover_mono⟩

/-! ### The exceedance state (R70) -/

/-- Settles O22: the exceedance step in QUIET and in OVER. -/
theorem exceedanceClosesAtTheTenthClearEvaluation : Obligations.ExceedanceClosesAtTheTenthClearEvaluation := by
  intro sl x kind
  refine ⟨fun h hx => ?_, fun h => ?_, fun h hx => ?_, fun h hc => ?_, fun h hc => ?_⟩
  · simp only [Slot.exceedStep, h, Bool.false_eq_true, if_false, hx, if_true]
  · simp only [Slot.exceedStep, h, Bool.false_eq_true, if_false, Nat.lt_irrefl]
  · simp only [Slot.exceedStep, h, if_true, hx]
  · have hc' : ¬10 ≤ sl.win.clear + 1 := by omega
    simp only [Slot.exceedStep, h, if_true, Nat.lt_irrefl, if_false, hc']
  · simp only [Slot.exceedStep, h, if_true, Nat.lt_irrefl, if_false, hc, le_refl]

end Sys2Proof.Machine

/-! The console link (chapter 8): frames and their characters, the decoder's refusals, and the arbiter. -/

namespace Sys2Proof.Machine

/-! ### Frames and their characters (R143, R147) -/

theorem ofNat_toNat_length {l : Nat} (h : l ≤ 200) : (BitVec.ofNat 8 l).toNat = l := by
  rw [BitVec.toNat_ofNat]
  exact Nat.mod_eq_of_lt (by omega)

theorem ConFrame.length_bytes (f : ConFrame) : f.bytes.length = 6 + f.body.length := by
  simp only [ConFrame.bytes, ConFrame.covered, wordBytes, List.length_append, List.length_cons, List.length_nil]
  omega

theorem ConFrame.bytes_eq (f : ConFrame) :
    f.bytes = 0x7E#8 :: BitVec.ofNat 8 f.body.length :: f.kind :: f.seq :: (f.body ++ wordBytes (crc16 f.covered)) := by
  simp [ConFrame.bytes, ConFrame.covered]

/-- A console frame is read back from its bytes. -/
theorem readConFrame_bytes {f : ConFrame} (h : f.body.length ≤ 200) : readConFrame f.bytes = some f := by
  rw [ConFrame.bytes_eq]
  simp only [readConFrame, ofNat_toNat_length h, List.take_left', List.drop_left', ConFrame.covered, if_true]

/-- What is read as a frame of the length its second byte gives is spelled by that frame's bytes. -/
theorem readConFrame_some {bs : List Byte} {f : ConFrame} {l : Byte} (h : readConFrame bs = some f)
    (h0 : bs[0]? = some 0x7E#8) (h1 : bs[1]? = some l) (hl : bs.length = 6 + l.toNat) : bs = f.bytes := by
  unfold readConFrame at h
  split at h
  · next x l' kind seq rest =>
    obtain rfl : x = 0x7E#8 := by simpa using h0
    obtain rfl : l' = l := by simpa using h1
    dsimp only at h
    split at h
    · next hcrc =>
      cases h
      have hrest : rest.length = l'.toNat + 2 := by
        simp only [List.length_cons] at hl
        omega
      have hbody : (rest.take l'.toNat).length = l'.toNat := by rw [List.length_take]; omega
      rw [ConFrame.bytes_eq]
      simp only [ConFrame.covered, hbody, BitVec.ofNat_toNat, BitVec.setWidth_eq, hcrc, List.take_append_drop]
    · cases h
  · cases h

/-! ### The receiver (R145, R146) -/

section
variable {s : State} {bs : List Byte} {l : Byte}

theorem State.gatherConsole_refuses (h : bs[1]? = some l) (hl : 200 < l.toNat) :
    s.gatherConsole bs = s.huntConsole := by
  match bs, h with
  | x :: l' :: rest, h =>
    obtain rfl : l' = l := by simpa using h
    simp only [State.gatherConsole, hl, if_true]

theorem State.gatherConsole_gathers (h : bs[1]? = some l) (hl : l.toNat ≤ 200) (hs : bs.length < 6 + l.toNat) :
    s.gatherConsole bs = s.collectConsole bs := by
  match bs, h, hs with
  | x :: l' :: rest, h, hs =>
    obtain rfl : l' = l := by simpa using h
    simp only [State.gatherConsole, Nat.not_lt.mpr hl, if_false, Nat.not_le.mpr hs]

theorem State.gatherConsole_completes (h : bs[1]? = some l) (hl : l.toNat ≤ 200) (hs : 6 + l.toNat ≤ bs.length) :
    s.gatherConsole bs = s.completeConsoleFrame bs := by
  match bs, h, hs with
  | x :: l' :: rest, h, hs =>
    obtain rfl : l' = l := by simpa using h
    simp only [State.gatherConsole, Nat.not_lt.mpr hl, if_false, hs, if_true]

theorem State.completeConsoleFrame_bytes {f : ConFrame} (h : f.body.length ≤ 200) :
    s.completeConsoleFrame f.bytes = s.huntConsole.checkedFrame f := by
  simp only [State.completeConsoleFrame, readConFrame_bytes h]

theorem State.completeConsoleFrame_discards (h0 : bs[0]? = some 0x7E#8) (h1 : bs[1]? = some l)
    (hl : bs.length = 6 + l.toNat) (h : ∀ f : ConFrame, bs ≠ f.bytes) : s.completeConsoleFrame bs = s.huntConsole := by
  have hnone : readConFrame bs = none :=
    Option.eq_none_iff_forall_not_mem.mpr fun f hf => h f (readConFrame_some hf h0 h1 hl)
  simp only [State.completeConsoleFrame, hnone]

theorem State.consoleCharacter_hunt (h : s.console.rx = .hunt) (c : Byte) (good : Bool) :
    s.consoleCharacter c good = if good = true ∧ c = 0x7E#8 then s.collectConsole [c] else s := by
  simp only [State.consoleCharacter, h]

theorem State.consoleCharacter_collecting {due : Nat} (h : s.console.rx = .collecting bs due) (c : Byte) :
    s.consoleCharacter c true = s.gatherConsole (bs ++ [c]) ∧ s.consoleCharacter c false = s.huntConsole := by
  simp only [State.consoleCharacter, h, State.consoleBreak, Bool.true_eq_false, if_false, if_true, and_self]

theorem State.requestFrame_eq (kind seq : Byte) {body : List Byte} (h : body.length ≤ 200) :
    s.requestFrame kind seq body = s.huntConsole.checkedFrame { kind := kind, seq := seq, body := body } := by
  rw [State.requestFrame, if_pos h]

end

/-- The rest of a console frame's characters do what the frame does whole. -/
theorem execAll_consoleCharacters {s : State} {f : ConFrame} (hbody : f.body.length ≤ 200) (hrun : s.held = false)
    (hs : s.Settled) (cs : List Byte) {bs : List Byte} (hf : bs ++ cs = f.bytes) (hbs : bs ≠ []) (hne : cs ≠ []) :
    execAll (cs.map fun c => .consoleCharacterReceived c true) (s.collectConsole bs) =
      .next (s.huntConsole.checkedFrame f).transmit := by
  have second (p : List Byte) (t : List Byte) (h : p ++ t = f.bytes) (hp : 2 ≤ p.length) :
      p[1]? = some (BitVec.ofNat 8 f.body.length) := by
    have := congrArg (·[1]?) h
    rw [ConFrame.bytes_eq] at this
    simpa [List.getElem?_append_left (show 1 < p.length by omega)] using this
  have hlen := ofNat_toNat_length hbody
  induction cs generalizing bs with
  | nil => exact absurd rfl hne
  | cons c cs ih =>
    have hpos : 0 < bs.length := List.length_pos_iff.mpr hbs
    have hf' : (bs ++ [c]) ++ cs = f.bytes := by rw [List.append_assoc]; exact hf
    have h1 := second (bs ++ [c]) cs hf' (by simp only [List.length_append, List.length_singleton]; omega)
    have hcount : bs.length + 1 + cs.length = 6 + f.body.length := by
      rw [← f.length_bytes, ← hf', List.length_append, List.length_append, List.length_singleton]
    have acts : exec (.consoleCharacterReceived c true) (s.collectConsole bs) =
        .next ((s.collectConsole bs).gatherConsole (bs ++ [c])).transmit := by
      rw [exec_consoleCharacterReceived, State.act_running (s := s.collectConsole bs) hrun]
      exact congrArg (fun u : State => (.next u.transmit : Host.Outcome State Fault Refusal))
        (State.consoleCharacter_collecting (s := s.collectConsole bs) rfl c).1
    cases cs with
    | nil =>
      have hend : 6 + (BitVec.ofNat 8 f.body.length).toNat ≤ (bs ++ [c]).length := by
        rw [hlen, List.length_append, ← hcount]
        simp
      have hwhole : bs ++ [c] = f.bytes := by simpa using hf'
      simp only [List.map_cons, List.map_nil, execAll, acts]
      rw [State.gatherConsole_completes h1 (hlen.trans_le hbody) hend, hwhole,
        State.completeConsoleFrame_bytes hbody]
      rfl
    | cons c' cs =>
      have hmore : (bs ++ [c]).length < 6 + (BitVec.ofNat 8 f.body.length).toNat := by
        rw [hlen, List.length_append, ← hcount]
        simp
      have hset : (s.collectConsole (bs ++ [c])).Settled := hs
      have hgather : (s.collectConsole bs).gatherConsole (bs ++ [c]) = s.collectConsole (bs ++ [c]) :=
        State.gatherConsole_gathers h1 (hlen.trans_le hbody) hmore
      rw [List.map_cons, execAll, acts, hgather, State.transmit_of_settled hset]
      exact ih hf' (by simp) (by simp)

/-- Settles O43: the first character starts the frame, and the rest complete it. -/
theorem consoleCharactersSpellTheRequest : Obligations.ConsoleCharactersSpellTheRequest := by
  intro f s hbody hrun hquiet hhunt
  have settled : s.Settled := hquiet ▸ s.transmit_settled hrun
  have hset : (s.collectConsole [0x7E#8]).Settled := settled
  have first : exec (.consoleCharacterReceived 0x7E#8 true) s = .next (s.collectConsole [0x7E#8]).transmit := by
    rw [exec_consoleCharacterReceived, State.act_running hrun, State.consoleCharacter_hunt hhunt, if_pos ⟨rfl, rfl⟩]
  have whole : execAll (f.bytes.map fun c => .consoleCharacterReceived c true) s =
      .next (s.huntConsole.checkedFrame f).transmit := by
    rw [ConFrame.bytes_eq, List.map_cons, execAll, first, State.transmit_of_settled hset]
    exact execAll_consoleCharacters hbody hrun settled _ (f.bytes_eq).symm (by simp) (by simp)
  rw [whole]
  split
  · rw [exec_unknownKind, State.act_running hrun, State.requestFrame_eq _ _ hbody]
  · next hkind =>
    rw [exec_consoleFrameDiscarded, State.act_running hrun, State.checkedFrame, if_neg hkind]

/-! ### The decoder (R149) -/

/-- Each row of the printed table is a request of the model's, with its kind, length and exemption. -/
theorem requestRows_spec : ∀ row ∈ requestRows, ∃ k : RequestKind,
    row.kind = k.code ∧ row.length = k.length ∧ row.exempt = k.exempt ∧
      ∀ seq body s, exec (row.command seq body) s = s.act (·.requestFrame row.kind seq body) := by
  simp only [requestRows, List.forall_mem_append, List.forall_mem_cons, List.not_mem_nil, false_implies,
    implies_true, and_true]
  exact ⟨⟨⟨⟨⟨.status, rfl, rfl, rfl, fun _ _ _ => rfl⟩, ⟨.setTime, rfl, rfl, rfl, fun _ _ _ => rfl⟩,
      ⟨.getTime, rfl, rfl, rfl, fun _ _ _ => rfl⟩, ⟨.start, rfl, rfl, rfl, fun _ _ _ => rfl⟩,
      ⟨.restart, rfl, rfl, rfl, fun _ _ _ => rfl⟩, ⟨.restart, rfl, rfl, rfl, fun _ _ _ => rfl⟩⟩,
    ⟨⟨.declarePoint, rfl, rfl, rfl, fun _ _ _ => rfl⟩, ⟨.releasePoint, rfl, rfl, rfl, fun _ _ _ => rfl⟩,
      ⟨.readPoint, rfl, rfl, rfl, fun _ _ _ => rfl⟩, ⟨.setCoupling, rfl, rfl, rfl, fun _ _ _ => rfl⟩,
      ⟨.postPeriod, rfl, rfl, rfl, fun _ _ _ => rfl⟩, ⟨.readPeriod, rfl, rfl, rfl, fun _ _ _ => rfl⟩⟩⟩,
    ⟨⟨.recallPeriod, rfl, rfl, rfl, fun _ _ _ => rfl⟩, ⟨.setFallback, rfl, rfl, rfl, fun _ _ _ => rfl⟩,
      ⟨.setStageRates, rfl, rfl, rfl, fun _ _ _ => rfl⟩, ⟨.readStage, rfl, rfl, rfl, fun _ _ _ => rfl⟩,
      ⟨.setDark, rfl, rfl, rfl, fun _ _ _ => rfl⟩, ⟨.readCounters, rfl, rfl, rfl, fun _ _ _ => rfl⟩⟩⟩,
    ⟨⟨.readCounters, rfl, rfl, rfl, fun _ _ _ => rfl⟩, ⟨.export_, rfl, rfl, rfl, fun _ _ _ => rfl⟩,
      ⟨.export_, rfl, rfl, rfl, fun _ _ _ => rfl⟩, ⟨.abortExport, rfl, rfl, rfl, fun _ _ _ => rfl⟩⟩⟩

theorem code_mem_requestRows (k : RequestKind) : k.code ∈ requestRows.map (·.kind) := by
  cases k <;> decide

theorem requestOf_eq_none {kind : Byte} (h : kind ∉ requestRows.map (·.kind)) : requestOf kind = none :=
  Option.eq_none_iff_forall_ne_some.mpr fun k hk => h (requestOf_isSome hk ▸ code_mem_requestRows k)

section
variable {s : State} {k : RequestKind} {kind seq : Byte} {body : List Byte}

theorem answer_unknown (h : requestOf kind = none) : answer kind seq body s = (stUnknownKind, s) := by
  simp only [answer, h]

theorem answer_badLength (h : body.length ≠ k.length) : answer k.code seq body s = (stBadLength, s) := by
  simp only [answer, requestOf_code, ne_eq, h, not_false_eq_true, if_true]

theorem answer_busy (hl : body.length = k.length) (hx : s.exporter.running = true) (hk : k.exempt = false) :
    answer k.code seq body s = (stBusy, s) := by
  rw [answer_code k seq body s hl, if_pos ⟨hx, hk⟩]

/-- A request that the decoder itself refuses. -/
theorem State.request_refused (h : s.Ready) (hkind : 1 ≤ kind.toNat ∧ kind.toNat ≤ 0x3F) (hl : body.length ≤ 200)
    {b : List Byte} (ha : answer kind seq body s.huntConsole = (b, s.huntConsole)) :
    s.act (·.requestFrame kind seq body) = .next (s.replied kind seq b).transmit := by
  rw [State.act_running h.1, State.requestFrame_ready h.2 hl hkind, ha]
  rfl

end

/-- Settles O44: the decoder's three checks. -/
theorem decoderRefusesInOrder : Obligations.DecoderRefusesInOrder := by
  intro s seq body hready hlength
  refine ⟨fun kind hlo hhi hkind => ?_, fun row hrow => ?_⟩
  · exact State.request_refused hready ⟨hlo, hhi⟩ hlength (answer_unknown (requestOf_eq_none hkind))
  · obtain ⟨k, hkind, hlen, hexempt, hexec⟩ := requestRows_spec row hrow
    rw [hlen, hexempt, hexec, hkind]
    exact ⟨fun hl => State.request_refused hready k.code_range hlength (answer_badLength hl),
      fun hl hx hk => State.request_refused hready k.code_range hlength (answer_busy hl hx hk)⟩

/-- Settles O45: the receiver in HUNT and in COLLECTING, and a request that meets an occupied slot. -/
theorem consoleReceiverGathersOrDiscards : Obligations.ConsoleReceiverGathersOrDiscards := by
  intro s hrun hunting gathers
  have taken (c : Byte) (good : Bool) :
      exec (.consoleCharacterReceived c good) s = .next (s.consoleCharacter c good).transmit :=
    State.act_running hrun (·.consoleCharacter c good)
  have gap : exec .consoleFrameGapExpiry s = .next s.consoleGapExpiry.transmit :=
    State.act_running hrun State.consoleGapExpiry
  refine ⟨fun seq body _ hreply => ⟨fun kind => ?_, fun row hrow => ?_⟩, State.act_running hrun State.huntConsole,
    State.act_running hrun State.consoleBreak, fun hhunt => ⟨?_, fun c => ⟨?_, ?_⟩⟩, fun bs due hrx => ⟨?_, fun c =>
      ⟨?_, fun hbs => ?_, fun l h1 hl hs => ?_, fun l h0 h1 hl hs hf => ?_⟩⟩⟩
  · rw [exec_requestDiscarded, State.act_running hrun, State.requestFrame_occupied hreply]
    rfl
  · obtain ⟨k, -, -, -, hexec⟩ := requestRows_spec row hrow
    rw [hexec, State.act_running hrun, State.requestFrame_occupied hreply]
    rfl
  · rw [gap]
    simp only [State.consoleGapExpiry, hhunt]
  · rw [taken, State.consoleCharacter_hunt hhunt, if_neg (by simp)]
  · rw [taken, State.consoleCharacter_hunt hhunt]
    simp only [true_and]
    rfl
  · rw [gap]
    simp only [State.consoleGapExpiry, hrx]
    rfl
  · rw [taken, (State.consoleCharacter_collecting hrx c).2]
    rfl
  · have h1 : (bs ++ [c])[1]? = some c := by
      rw [List.getElem?_append_right hbs.le, hbs]
      rfl
    rw [taken, (State.consoleCharacter_collecting hrx c).1]
    split
    · next hc => rw [State.gatherConsole_refuses h1 hc]; rfl
    · next hc =>
      rw [State.gatherConsole_gathers h1 (not_lt.mp hc) (by simp only [List.length_append, hbs, List.length_singleton]; omega)]
      rfl
  · obtain ⟨hlt, -⟩ := List.getElem?_eq_some_iff.mp h1
    rw [taken, (State.consoleCharacter_collecting hrx c).1, State.gatherConsole_gathers (l := l)
      (by rw [List.getElem?_append_left hlt, h1]) hl (by simp only [List.length_append, List.length_singleton]; omega)]
    rfl
  · have h0' : (bs ++ [c])[0]? = some 0x7E#8 := by rw [List.getElem?_append_left (by omega), h0]
    have h1' : (bs ++ [c])[1]? = some l := by rw [List.getElem?_append_left (by omega), h1]
    have hlen : (bs ++ [c]).length = 6 + l.toNat := by
      simp only [List.length_append, List.length_singleton]
      omega
    rw [taken, (State.consoleCharacter_collecting hrx c).1, State.gatherConsole_completes h1' hl hlen.ge,
      State.completeConsoleFrame_discards h0' h1' hlen hf]
    rfl

end Sys2Proof.Machine

/-! The console line's transmit side: the arbiter, the notices' bytes, and the notice queue (8.4, 9.1). -/

namespace Sys2Proof.Machine

/-! ### The arbiter (R153) and the ends of frames -/

section
variable {s : State}

theorem State.chooseFrame_busy (h : s.console.line ≠ none) : s.chooseFrame = s := by
  obtain ⟨f, hf⟩ := Option.ne_none_iff_exists'.mp h
  simp only [State.chooseFrame, hf]

theorem State.chooseFrame_reply (h : s.console.line = none) {r : ConFrame} (hr : s.console.reply = some r) :
    s.chooseFrame = s.sendFrame { what := .reply, frame := r } := by
  simp only [State.chooseFrame, h, hr]

theorem State.chooseFrame_export (h : s.console.line = none) (hr : s.console.reply = none) {f : TxFrame}
    {x : Exporter} (hx : s.exportFrame = some (f, x)) : s.chooseFrame = { s with exporter := x }.sendFrame f := by
  simp only [State.chooseFrame, h, hr, hx]

theorem State.chooseFrame_nothing (h : s.console.line = none) (hr : s.console.reply = none)
    (hx : s.exporter.running = false) (hq : s.reports.queue = []) : s.chooseFrame = s := by
  simp only [State.chooseFrame, h, hr, State.exportFrame_eq_none_iff.mpr hx, hq]

theorem State.chooseFrame_notice (h : s.console.line = none) (hr : s.console.reply = none)
    (hx : s.exporter.running = false) {e : NoticeEntry} {rest : List NoticeEntry} (hq : s.reports.queue = e :: rest) :
    s.chooseFrame = { s with reports := { s.reports with queue := rest } }.sendFrame
      { what := .notice, frame := e.frame } := by
  simp only [State.chooseFrame, h, hr, State.exportFrame_eq_none_iff.mpr hx, hq]

theorem State.frameSent_idle (h : s.console.line = none) (pins : Straps) : s.frameSent pins = s := by
  simp only [State.frameSent, h]

theorem State.frameSent_frees {w : TxKind} {f : ConFrame} (h : s.console.line = some { what := w, frame := f })
    (hw : w = .notice ∨ w = .record) (pins : Straps) :
    s.frameSent pins = { s with console := { s.console with line := none } } := by
  rcases hw with rfl | rfl <;> simp only [State.frameSent, h]

theorem State.frameSent_exportEnd {f : ConFrame} (h : s.console.line = some { what := .exportEnd, frame := f })
    (pins : Straps) :
    s.frameSent pins = { s with console := { s.console with line := none }, exporter := Exporter.idle } := by
  simp only [State.frameSent, h]

theorem State.frameSent_reply {f : ConFrame} (h : s.console.line = some { what := .reply, frame := f })
    (hr : s.console.restart = none) (pins : Straps) :
    s.frameSent pins = { s with console := { s.console with line := none, reply := none } } := by
  simp only [State.frameSent, h, hr]

end

/-! ### The bytes of a notice (R164) -/

theorem wordBytes_eq (w : Word16) : wordBytes w = u16 w.toNat := by
  have low : lowByte w = BitVec.ofNat 8 w.toNat := by
    apply BitVec.eq_of_toNat_eq
    simp [lowByte]
  have high : highByte w = BitVec.ofNat 8 (w.toNat / 256) := by
    apply BitVec.eq_of_toNat_eq
    simp [highByte, Nat.shiftRight_eq_div_pow]
  rw [wordBytes, low, high]
  rfl

theorem useBytes_eq (u : Use) : useBytes u = match u with
    | .boundary z => u8 0 ++ u8 z.val
    | .foh z => u8 1 ++ u8 z.val
    | .stage st => u8 2 ++ u8 st.val
    | .roaming z => u8 3 ++ u8 z.val := by
  cases u <;> rfl

theorem headroomBytes_eq (h : Option Int) :
    headroomBytes h = u16 (match h with
      | some v => BitVec.ofInt 16 v
      | none => 0x8000#16).toNat := by
  rw [headroomBytes, wordBytes_eq]
  cases h <;> rfl

theorem optStamp_eq (v : Option Word16) : optStamp v = match v with
    | some w => u8 1 ++ u16 w.toNat
    | none => u8 0 ++ u16 0 := by
  cases v with
  | none => rfl
  | some w => exact congrArg (u8 1 ++ ·) (wordBytes_eq w)

/-- Settles O46: the arbiter's choice, the notices' bytes, and the ends of frames. -/
theorem arbiterTakesReplyExportNotice : Obligations.ArbiterTakesReplyExportNotice := by
  refine ⟨fun s => ⟨State.chooseFrame_busy, fun hl r hr => State.chooseFrame_reply hl hr, fun hl hr => ⟨fun hx => ?_,
      fun hx => ⟨State.chooseFrame_nothing hl hr hx, fun e rest hq => State.chooseFrame_notice hl hr hx hq⟩⟩⟩, ?_,
    fun pins s hrun => ?_⟩
  · obtain ⟨⟨f, x⟩, hf⟩ := Option.ne_none_iff_exists'.mp
      (fun hn => absurd (State.exportFrame_eq_none_iff.mp hn) (by simp [hx]) : s.exportFrame ≠ none)
    exact ⟨f, x, hf, State.chooseFrame_export hl hr hf⟩
  · intro n none16 mark use input clock
    have huse (u : Use) : use u = useBytes u := (useBytes_eq u).symm
    have hinput (i : Input) : input i = u8 (inputCode i) := congrArg u8 (inputCode_eq i).symm
    cases n
    case exceedOnset p u kind x l1 pk => exact ⟨rfl, by rw [huse]; cases kind with
      | none => rfl
      | some k => cases k <;> rfl⟩
    case exceedClear p u => exact ⟨rfl, by rw [huse]; rfl⟩
    case pointStale p u stamp => exact ⟨rfl, by
      rw [huse]
      exact congrArg (u16 p.val ++ useBytes u ++ ·) ((optStamp_eq stamp).trans (by cases stamp <;> rfl))⟩
    case pointFresh p u stamp => exact ⟨rfl, by rw [huse, ← wordBytes_eq]; rfl⟩
    case pointClosed p u minute secs l1 peak cause => exact ⟨rfl, by rw [huse]; cases cause <;> rfl⟩
    case minuteDigest p u m secs l1 peak => exact ⟨rfl, by
      rw [huse]
      cases hm : m.long <;> simp only [Notice.body, longBytes, hm] <;> rfl⟩
    case batteryLow p u => exact ⟨rfl, by rw [huse]; rfl⟩
    case meterInputSwitch was now cause a b => exact ⟨rfl, by
      rw [hinput, hinput, ← marks_pair]
      cases cause <;> rfl⟩
    case periodRetired i outcome start stop zones stages exceed worst c => exact ⟨rfl, by
      have hworst := headroomBytes_eq worst
      cases outcome <;> simp only [Notice.body, hworst] <;> rfl⟩
    case scheduleStalled i state c => exact ⟨rfl, by cases state <;> rfl⟩
    case fadeStart st applied time step => exact ⟨rfl, rfl⟩
    case stageSilenced st time => exact ⟨rfl, rfl⟩
    case stageNotFollowing st echo r last => exact ⟨rfl, by
      rw [← marks_pair]
      simp [Notice.body, echoBytes, rangeBytes, orderBytes, flag, mark]⟩
    case counterHalf c count => exact ⟨rfl, by cases c <;> rfl⟩
    case darkEnter metered threshold time => exact ⟨rfl, rfl⟩
    case darkLeave cause => exact ⟨rfl, by cases cause <;> rfl⟩
  · have sent : exec (.consoleFrameSent pins) s = .next (s.frameSent pins).transmit :=
      State.act_running hrun (·.frameSent pins)
    rw [sent]
    refine ⟨fun h => by rw [State.frameSent_idle h], fun f => ⟨fun h => ?_, fun h => ?_, fun h hr => ?_⟩⟩
    · rcases h with h | h
      · rw [State.frameSent_frees h (.inl rfl)]
      · rw [State.frameSent_frees h (.inr rfl)]
    · rw [State.frameSent_exportEnd h]
    · rw [State.frameSent_reply h hr]

/-! ### The notice queue (R160 to R162, R167) -/

section
variable {r : Reports}

theorem Reports.countDrop_max (h : 65535 ≤ r.counters.get noticesDropped) : r.countDrop = r := if_pos h

theorem Reports.countDrop_off (h : r.counters.get noticesDropped < 65535)
    (hm : r.counters.get noticesDropped ≠ 32767) : r.countDrop =
      { r with counters := r.counters.put noticesDropped (r.counters.get noticesDropped + 1) } := by
  have h1 : ¬noticesDropped.max ≤ r.counters.get noticesDropped := Nat.not_le.mpr h
  have h2 : ¬r.counters.get noticesDropped + 1 = noticesDropped.mid := fun h => hm (Nat.succ_injective h)
  simp only [Reports.countDrop, h1, h2, if_false]

theorem Reports.countDrop_mid (h : r.counters.get noticesDropped = 32767) : r.countDrop =
    if r.queue.length < 48 then
      { queue := r.queue ++ [{ number := r.number, notice := .counterHalf noticesDropped 32768 }]
        number := r.number + 1, counters := r.counters.put noticesDropped 32768 }
    else { r with number := r.number + 1, counters := r.counters.put noticesDropped 32769 } := by
  have h1 : ¬noticesDropped.max ≤ 32767 := by decide
  have h2 : 32767 + 1 = noticesDropped.mid := rfl
  simp only [Reports.countDrop, h, h1, if_false, h2, if_true, Reports.full_iff]
  by_cases hq : r.queue.length < 48
  · rw [if_pos hq, if_neg (Nat.not_le.mpr hq)]
    rfl
  · rw [if_neg hq, if_pos (Nat.not_lt.mp hq)]
    rfl

end

/-- Settles O48: the queue below and at 48 entries, class by class, and the counter of lost notices. -/
theorem fullQueueActsByClass : Obligations.FullQueueActsByClass := by
  intro r n joined routine dropped
  have hroutine (e : NoticeEntry) : routine e = e.routine := rfl
  refine ⟨by cases n <;> exact ⟨rfl, rfl⟩, Reports.countDrop_max, Reports.countDrop_off, fun hd hq => ?_,
    fun hd hq => ?_, fun hq => ?_, fun hq before e after hsplit hbefore he => ?_, fun hq hc => ?_, fun hq hnone => ?_⟩
  · rw [Reports.countDrop_mid hd, if_pos hq]
    rfl
  · rw [Reports.countDrop_mid hd, if_neg (Nat.not_lt.mpr hq)]
    rfl
  · have hfull := (Reports.not_full_iff r).mpr hq
    simp only [Reports.offer, Reports.offerClosed, hfull, if_true]
    exact ⟨rfl, rfl⟩
  · have hfull : r.full = true := (Reports.full_iff r).mpr hq
    have hany : r.hasRoutine = true := by
      rw [Reports.hasRoutine, hsplit, List.any_append, List.any_cons, ← hroutine e, he, Bool.true_or, Bool.or_true]
    have herase : r.displace = { r with queue := before ++ after } := by
      have hnone : ∀ b ∈ before, ¬b.routine = true := fun b hb => by simp [← hroutine, hbefore b hb]
      rw [Reports.displace, hsplit, List.eraseP_append_right _ hnone, List.eraseP_cons_of_pos (show e.routine = true from he)]
    simp only [Reports.offer, Reports.offerClosed, hfull, Bool.true_eq_false, if_false, hany, and_true, if_true, herase]
    exact ⟨fun hn => if_pos hn, rfl⟩
  · have hfull : r.full = true := (Reports.full_iff r).mpr hq
    have hno : ¬(n.cls ≠ .routine ∧ r.hasRoutine = true) := by
      rintro ⟨hn, hr⟩
      obtain ⟨e, he, hcls⟩ := r.hasRoutine_iff.mp hr
      rcases hc with hc | hc
      · exact hn hc
      · simpa [routine, hcls] using hc e he
    simp only [Reports.offer, hfull, Bool.true_eq_false, if_false, hno]
    rfl
  · have hfull : r.full = true := (Reports.full_iff r).mpr hq
    have hno : ¬r.hasRoutine = true := fun hr => by
      obtain ⟨e, he, hcls⟩ := r.hasRoutine_iff.mp hr
      simpa [routine, hcls] using hnone e he
    simp only [Reports.offerClosed, hfull, Bool.true_eq_false, Bool.false_eq_true, if_false, hno]

end Sys2Proof.Machine

/-! The history unit (9.3): how it begins, what it sends, and how it ends. -/

namespace Sys2Proof.Machine

/-! ### EXPORT and ABORT_EXPORT (R169, R172) -/

theorem pointOf_val (pt : PointId) : pointOf pt.val = some pt := dif_pos pt.isLt

theorem pointOf_eq_none {n : Nat} (h : 1024 ≤ n) : pointOf n = none := dif_neg (Nat.not_lt.mpr h)

section
variable {s : State} (seq : Byte) (back span : Nat)

theorem ownExport_badPoint {id : Nat} (h : 1024 ≤ id) : ownExport seq id 0 back span s = (stBadField, s) := by
  simp only [ownExport, if_true, pointOf_eq_none h]

theorem ownExport_badMode {mode : Nat} (id : Nat) (h : 2 ≤ mode) :
    ownExport seq id mode back span s = (stBadField, s) := by
  rw [ownExport, if_neg (by omega), if_neg (by omega)]

theorem ownExport_unknown {pt : PointId} (h : (s.points[setOf pt]).find pt = none) :
    ownExport seq pt.val 0 back span s = (stUnknownPoint, s) := by
  simp only [ownExport, if_true, pointOf_val, h]

theorem ownExport_one {pt : PointId} {w : Way} {sl : Slot} (h : (s.points[setOf pt]).find pt = some w)
    (hsl : s.slotAt (setOf pt) w = some sl) : ownExport seq pt.val 0 back span s =
      s.beginExport seq .one [exportEntry (setOf pt) w sl (min 15 back)] (min 15 span) := by
  simp only [ownExport, if_true, pointOf_val, h, hsl]

theorem ownExport_walk (id : Nat) :
    ownExport seq id 1 back span s = s.beginExport seq .walk (s.walkList (min 15 back)) (min 15 span) := by
  rw [ownExport, if_neg (by decide), if_pos rfl]

theorem State.walkList_eq (s : State) (back : Nat) : s.walkList back = allSets.filterMap fun p =>
    (s.slotAt p .one).bind fun sl => if sl.locked then some (exportEntry p .one sl back) else none := by
  refine congrArg (fun f => List.filterMap f allSets) (funext fun p => ?_)
  cases s.slotAt p .one <;> rfl

theorem Console.endOnLine_iff (c : Console) :
    c.endOnLine = true ↔ ∃ f, c.line = some { what := .exportEnd, frame := f } := by
  unfold Console.endOnLine
  split
  · next f hf =>
    rw [hf]
    obtain ⟨what, frame⟩ := f
    cases what <;> simp
  · next hf => simp [hf]

theorem ownAbort_idle (h : s.exporter.running = false) : ownAbort s = (stOk ++ u8 0, s) := by
  rw [ownAbort, if_pos h]

theorem ownAbort_ending (h : s.exporter.running = true) (he : s.console.endOnLine = true) :
    ownAbort s = (stOk ++ u8 2, s) := by
  rw [ownAbort, if_neg (by simp [h]), if_pos he]

theorem ownAbort_marks (h : s.exporter.running = true) (he : ¬s.console.endOnLine = true) :
    ownAbort s = (stOk ++ u8 1, { s with exporter := { s.exporter with abort := true } }) := by
  rw [ownAbort, if_neg (by simp [h]), if_neg he]

end

/-- Settles O50: EXPORT in its modes, and ABORT_EXPORT in the states of the unit. -/
theorem exportsBeginAndAreAborted : Obligations.ExportsBeginAndAreAborted := by
  refine ⟨fun s seq p0 p1 mode back span hopen => ?_, fun s seq hready => ?_⟩
  · intro id one entry begun
    have replies {b : List Byte} {u : State}
        (h : ownExport seq id mode.toNat back.toNat span.toNat s.huntConsole = (b, u.huntConsole)) :
        s.act (·.requestFrame 0x3A seq [p0, p1, mode, back, span]) = .next (u.replied 0x3A seq b).transmit :=
      State.request_owned hopen .export_ seq rfl h
    refine ⟨fun hm hid => ?_, fun hm => ?_, fun pt hm hid => ⟨fun hf => ?_, fun w sl hf hsl => ?_⟩, fun hm => ?_⟩
    · subst hm
      exact replies (ownExport_badPoint seq _ _ hid)
    · exact replies (ownExport_badMode seq _ _ _ hm)
    · subst hm
      exact replies (hid ▸ ownExport_unknown (s := s.huntConsole) seq _ _ hf)
    · subst hm
      exact replies (hid ▸ ownExport_one (s := s.huntConsole) seq _ _ hf hsl)
    · subst hm
      have h := ownExport_walk (s := s.huntConsole) seq back.toNat span.toNat id
      rw [State.walkList_eq] at h
      exact replies h
  · intro atEnd
    have hend : s.huntConsole.console.endOnLine = true ↔ atEnd := s.console.endOnLine_iff
    have replies {b : List Byte} {u : State} (h : ownAbort s.huntConsole = (b, u.huntConsole)) :
        s.act (·.requestFrame 0x3B seq []) = .next (u.replied 0x3B seq b).transmit :=
      State.request_of_exempt (t := u.huntConsole) hready (k := .abortExport) rfl seq rfl h rfl
    exact ⟨fun hx => replies (ownAbort_idle hx), fun hx he => replies (ownAbort_ending hx (hend.mpr he)),
      fun hx he => replies (u := { s with exporter := { s.exporter with abort := true } })
        (ownAbort_marks (s := s.huntConsole) hx (mt hend.mp he))⟩

/-! ### Record frames and the end frame (R170, R171) -/

section
variable {s : State} (hrun : s.exporter.running = true)
include hrun

theorem State.exportFrame_aborted (h : s.exporter.abort = true) :
    s.exportFrame = some (s.exporter.endFrame, s.exporter) := by
  simp only [State.exportFrame, hrun, Bool.true_eq_false, if_false, h, if_true]

theorem State.exportFrame_ends (h : s.exporter.abort = false)
    (hc : s.exporter.list.length * (s.exporter.span + 1) ≤ s.exporter.cursor) :
    s.exportFrame = some (s.exporter.endFrame, s.exporter) := by
  have hnone : s.exporter.list[s.exporter.cursor / (s.exporter.span + 1)]? = none :=
    List.getElem?_eq_none ((Nat.le_div_iff_mul_le (Nat.succ_pos _)).mpr hc)
  simp only [State.exportFrame, hrun, Bool.true_eq_false, if_false, h, Bool.false_eq_true, State.recordFrame, hnone]

theorem State.exportFrame_record (h : s.exporter.abort = false) {e : ExportEntry} {i d : Nat}
    (he : s.exporter.list[i]? = some e) (hd : d ≤ s.exporter.span)
    (hc : s.exporter.cursor = i * (s.exporter.span + 1) + d) :
    s.exportFrame = some ({ what := .record
                            frame := { kind := 0x60, seq := s.exporter.seq
                                       body := s.recordBody e (e.base - (d : Int)).toNat } },
      { s.exporter with cursor := s.exporter.cursor + 1, sent := s.exporter.sent + 1 }) := by
  have hdiv : s.exporter.cursor / (s.exporter.span + 1) = i := by
    rw [hc, Nat.add_comm, Nat.add_mul_div_right _ _ (Nat.succ_pos _), Nat.div_eq_of_lt (Nat.lt_succ_of_le hd),
      Nat.zero_add]
  have hmod : s.exporter.cursor % (s.exporter.span + 1) = d := by
    rw [hc, Nat.add_comm, Nat.add_mul_mod_self_right, Nat.mod_eq_of_lt (Nat.lt_succ_of_le hd)]
  simp only [State.exportFrame, hrun, Bool.true_eq_false, if_false, h, Bool.false_eq_true, State.recordFrame, hdiv, he,
    Exporter.named, hmod]

end

/-- The fields of a record after its point (R170). -/
def State.recordFields (s : State) (e : ExportEntry) (number : Nat) : List Byte :=
  (s.recordBody e number).drop 2

theorem State.recordBody_eq (s : State) (e : ExportEntry) (number : Nat) :
    s.recordBody e number = u16 e.point.val ++ s.recordFields e number := rfl

section
variable {s : State} {e : ExportEntry} {number : Nat}

theorem State.recordFields_unbound (h : e.intact = false) :
    s.recordFields e number = [255, 255] ++ u32 number ++ [1] := by
  simp only [State.recordFields, State.recordBody, h, Bool.false_eq_true, if_false]
  rfl

variable {sl : Slot} (hi : e.intact = true) (hsl : s.slotAt e.set e.way = some sl)
include hi hsl

theorem State.recordFields_absent (h : number = 0 ∨ ∀ m ∈ sl.win.minutes, m.number ≠ number) :
    s.recordFields e number = useBytes sl.use ++ u32 number ++ [1] := by
  have hnone : (if number = 0 then none else sl.win.minutes.find? fun m => decide (m.number = number)) = none := by
    split
    · rfl
    · next h0 => exact List.find?_eq_none.mpr fun m hm => by simpa using h.resolve_left h0 m hm
  simp only [State.recordFields, State.recordBody, hi, if_true, hsl, hnone]
  rfl

theorem State.recordFields_present {before after : List MinuteRecord} {m : MinuteRecord} (h0 : 0 < number)
    (hm : sl.win.minutes = before ++ m :: after) (hn : m.number = number)
    (hb : ∀ m' ∈ before, m'.number ≠ number) :
    s.recordFields e number = useBytes sl.use ++ u32 number ++ [0] ++ presentBytes m := by
  have hsome : (if number = 0 then none else sl.win.minutes.find? fun m => decide (m.number = number)) = some m := by
    have hbefore : before.find? (fun m => decide (m.number = number)) = none :=
      List.find?_eq_none.mpr fun m' hm' => by simpa using hb m' hm'
    rw [if_neg h0.ne', hm, List.find?_append, hbefore, List.find?_cons_of_pos (by simpa using hn)]
    rfl
  simp only [State.recordFields, State.recordBody, hi, if_true, hsl, hsome]
  simp [u16, u8]

end

/-- Settles O51: the abort, the records the cursor names, and the end after the last. -/
theorem exportSendsRecordsThenItsEnd : Obligations.ExportSendsRecordsThenItsEnd := by
  intro s hrun x per ends
  have hend : s.exporter.endFrame = ends (if x.abort then 1 else 0) := by
    unfold Exporter.endFrame
    cases s.exporter.abort <;> rfl
  refine ⟨fun ha => ?_, fun ha hc => ?_, fun e i d ha he hd hc => ?_⟩
  · rw [State.exportFrame_aborted hrun ha, hend, if_pos ha]
  · rw [State.exportFrame_ends hrun ha hc, hend, if_neg (by simp [x, ha])]
  · intro number
    exact ⟨s.recordFields e number, State.exportFrame_record hrun ha he hd hc, State.recordFields_unbound,
      fun sl hi hsl => ⟨State.recordFields_absent hi hsl, fun before m after h0 hm hn hb =>
        State.recordFields_present hi hsl h0 hm hn hb⟩⟩

end Sys2Proof.Machine

/-! The reads of points and of stages (R54, R140). -/

namespace Sys2Proof.Machine

/-! ### READ_POINT -/

section
variable {s : State}

theorem ownReadPoint_badPoint {id : Nat} (h : 1024 ≤ id) : ownReadPoint id s = (stBadField, s) := by
  simp only [ownReadPoint, pointOf_eq_none h]

theorem ownReadPoint_unknown {pt : PointId} (h : (s.points[setOf pt]).find pt = none) :
    ownReadPoint pt.val s = (stUnknownPoint, s) := by
  simp only [ownReadPoint, pointOf_val, h]

theorem ownReadPoint_present {pt : PointId} {w : Way} {sl : Slot} (h : (s.points[setOf pt]).find pt = some w)
    (hsl : s.slotAt (setOf pt) w = some sl) : ownReadPoint pt.val s = (readPointReply (setOf pt) w sl, s) := by
  simp only [ownReadPoint, pointOf_val, h, hsl]

end

/-! ### READ_STAGE -/

/-- The reply's first part: the engine (R140). -/
def State.stageHead (s : State) (st : Stage) : List Byte :=
  let e := s.engine st
  stOk ++ u8 st.val ++ u8 e.state.code ++ u16 e.applied ++ u16 e.target ++ flag e.granted ++
    u16 e.fadeTime ++ u8 (match e.fade with | some f => f.step | none => 0) ++
    u8 e.attack ++ u8 e.release ++ u8 e.hold ++ u8 (e.holdLeft s.now) ++ [e.seq] ++ orderBytes e.last ++
    rangeBytes (e.range s.now) ++ echoBytes e.lastEcho ++ u8 e.misses ++ u8 e.matches_ ++ flag e.notFollowing

theorem ownReadStage_badStage {s : State} {n : Nat} (h : 4 ≤ n) : ownReadStage n s = (stBadField, s) := by
  simp only [ownReadStage, stageOf_eq_none h]

theorem ownReadStage_val (s : State) (st : Stage) :
    ownReadStage st.val s = (s.stageHead st ++ allSets.flatMap (s.control.rowBytes st), s) := by
  simp only [ownReadStage, stageOf_val]
  rfl

theorem length_orderBytes (o : Option Order) : (orderBytes o).length = 3 := by cases o <;> rfl

theorem length_rangeBytes (r : Option EchoRange) : (rangeBytes r).length = 5 := by cases r <;> rfl

theorem length_echoBytes (x : Option Echo) : (echoBytes x).length = 3 := by cases x <;> rfl

theorem State.length_stageHead (s : State) (st : Stage) : (s.stageHead st).length = 30 := by
  simp only [State.stageHead, List.length_append, length_orderBytes, length_rangeBytes, length_echoBytes]
  rfl

theorem Control.length_rowBytes (c : Control) (st : Stage) (p : SetIx) : (c.rowBytes st p).length = 5 := rfl

/-- The i-th part of a list of parts of one length. -/
theorem take_drop_flatMap {α β : Type} {f : α → List β} {k : Nat} (hk : ∀ a, (f a).length = k) {l : List α} {i : Nat}
    (hi : i < l.length) : ((l.flatMap f).drop (k * i)).take k = f l[i] := by
  induction l generalizing i with
  | nil => cases hi
  | cons a l ih =>
    rw [List.flatMap_cons]
    cases i with
    | zero =>
      rw [Nat.mul_zero, List.drop_zero, ← hk a, List.take_left]
      rfl
    | succ i =>
      have h : k * (i + 1) = (f a).length + k * i := by rw [hk]; ring
      rw [h, ← List.drop_drop, List.drop_left]
      exact ih (by simpa using hi)

theorem allSets_getElem (p : SetIx) (h : p.val < allSets.length) : allSets[p.val] = p := by
  revert p
  decide

theorem lastLong_eq (ms : List MinuteRecord) : lastLong ms = match ms with
    | [] => u16 65535
    | m :: _ => match m.long with
      | .code l => u16 l
      | .insufficient => u16 65534
      | .notComputed => u16 65535 := by
  cases ms with
  | nil => rfl
  | cons m ms => rfl

theorem readPointReply_eq (p : SetIx) (w : Way) (sl : Slot) : readPointReply p w sl =
    u8 0 ++ u8 p.val ++ u8 w.code ++ u8 sl.use.roleCode ++ u8 sl.use.place ++ u8 (if sl.locked then 1 else 0) ++
      u8 (if sl.dirty then 1 else 0) ++ u32 sl.minute ++ u8 sl.win.minutes.length ++ optStamp sl.win.lastStamp ++
      u8 (if sl.win.stale then 1 else 0) ++ u8 (if sl.win.exceeding then 1 else 0) ++ u16 (sl.win.l1.getD 65535) ++
      u16 (sl.win.pk.getD 65535) ++ lastLong sl.win.minutes := rfl

theorem rangeBytes_eq (r : Option EchoRange) : rangeBytes r = match r with
    | some r => u16 r.least ++ u16 r.greatest ++ u8 ((if r.unmuted then 1 else 0) + (if r.muted then 2 else 0))
    | none => u16 65535 ++ u16 65535 ++ u8 0 := by
  cases r <;> rfl

/-- The units left to a timer's expiry, rounded up; 255 for a stopped one. -/
theorem unitsLeft_eq (timer : Option Nat) (now : Nat) {unit : Nat} (h : 1 ≤ unit) :
    (match timer with | none => 255 | some t => (t - now + unit - 1) / unit) =
      (timer.map fun t => (t - now + (unit - 1)) / unit).getD 255 := by
  cases timer with
  | none => rfl
  | some t => exact congrArg (· / unit) (Nat.add_sub_assoc h _)

theorem second_pos : 1 ≤ Config.second := Nat.succ_le_of_lt (by norm_num [Config.second])

theorem holdLeft_eq (e : Engine) (now : Nat) :
    e.holdLeft now = (e.holdAt.map fun t => (t - now + (Config.second - 1)) / Config.second).getD 255 :=
  unitsLeft_eq e.holdAt now second_pos

theorem fadeStep_eq (f : Option Fade) : (match f with | some f => f.step | none => 0) = (f.map fun f => f.step).getD 0 := by
  cases f <;> rfl

theorem orderBytes_eq (o : Option Order) : orderBytes o =
    u16 ((o.map fun o => o.reduction).getD 65535) ++ u8 ((o.map fun o => if o.mute then 1 else 0).getD 0) := by
  cases o <;> rfl

theorem echoBytes_eq (x : Option Echo) : echoBytes x =
    u16 ((x.map fun o => o.reduction).getD 65535) ++ u8 ((x.map fun o => if o.mute then 1 else 0).getD 0) := by
  cases x <;> rfl

/-- Settles O56: what the two reads reply. -/
theorem pointAndStageReadsChangeNothing : Obligations.PointAndStageReadsChangeNothing := by
  refine ⟨fun s seq p0 p1 hopen => ?_, fun s seq st hopen => ?_⟩
  · intro read
    have replies {b : List Byte} (h : ownReadPoint (le16 p0 p1) s.huntConsole = (b, s.huntConsole)) :
        read = .next (s.replied 0x12 seq b).transmit :=
      State.request_read hopen .readPoint seq rfl h
    refine ⟨fun h => replies (ownReadPoint_badPoint h), fun pt hid => ?_⟩
    intro p
    rw [hid] at replies
    refine ⟨fun hf => replies (ownReadPoint_unknown (s := s.huntConsole) hf), fun w sl hf hsl => ?_⟩
    have present := replies (ownReadPoint_present (s := s.huntConsole) hf hsl)
    rw [readPointReply_eq, lastLong_eq] at present
    exact present
  · have replies {b : List Byte} (h : ownReadStage st.toNat s.huntConsole = (b, s.huntConsole)) :
        exec (.readStage seq [st]) s = .next (s.replied 0x31 seq b).transmit :=
      State.request_read hopen .readStage seq rfl h
    refine ⟨fun h => replies (ownReadStage_badStage h), fun stage hst => ?_⟩
    intro e range
    rw [hst] at replies
    have hlength := s.length_stageHead stage
    refine ⟨_, replies (ownReadStage_val s.huntConsole stage), ?_, ?_, fun p => ?_⟩
    · show (s.stageHead stage ++ allSets.flatMap (s.control.rowBytes stage)).length = 110
      rw [List.length_append, hlength]
      rfl
    · show (s.stageHead stage ++ allSets.flatMap (s.control.rowBytes stage)).take 30 = _
      rw [← hlength, List.take_left, State.stageHead, holdLeft_eq, orderBytes_eq, echoBytes_eq, fadeStep_eq]
      have hr : rangeBytes (e.range s.now) = range := rangeBytes_eq _
      rw [← hr]
      simp only [List.append_assoc]
      rfl
    · show ((s.stageHead stage ++ allSets.flatMap (s.control.rowBytes stage)).drop (30 + 5 * p.val)).take 5 = _
      have hp : p.val < allSets.length := p.isLt
      rw [← List.drop_drop, ← hlength, List.drop_left, take_drop_flatMap (s.control.length_rowBytes stage) hp,
        allSets_getElem]
      rfl

end Sys2Proof.Machine

/-! The standby monitor (10.5): the quiet marks, the dark timer and the DARK flag. -/

namespace Sys2Proof.Machine

/-! ### The condition and the timer (R180) -/

/-- The dark condition with some quiet marks. -/
def State.darkWith (s : State) (quiet : Vector Bool 4) : Bool :=
  s.standby.enable && allStages.any s.hasMeter && allStages.all fun st => !s.hasMeter st || quiet[st]

/-- The dark timer after a judgement that starts it over. -/
def State.timerAnew (s : State) (quiet : Vector Bool 4) : Timer :=
  if s.darkWith quiet then some (s.now + s.standby.darkTime * Config.second) else none

/-- The dark timer after a judgement that lets it run on. -/
def State.timerOn (s : State) (quiet : Vector Bool 4) : Timer :=
  if s.darkWith quiet then
    (if s.standby.timer.isSome then s.standby.timer else some (s.now + s.standby.darkTime * Config.second))
  else none

section
variable {s : State}

theorem State.restartDark_dark (h : s.standby.dark = true) : s.restartDark = s := if_pos h

theorem State.restartDark_light (h : s.standby.dark = false) :
    s.restartDark = { s with standby := { s.standby with timer := s.timerAnew s.standby.quiet } } := by
  unfold State.restartDark State.timerAnew
  rw [if_neg (by simp [h])]
  by_cases hc : s.darkCondition = true
  · rw [if_pos hc, if_pos (show s.darkWith s.standby.quiet = true from hc)]
    rfl
  · rw [if_neg hc, if_neg (show ¬s.darkWith s.standby.quiet = true from hc)]
    rfl

theorem State.judgeDark_dark (h : s.standby.dark = true) : s.judgeDark = s := if_pos h

theorem State.judgeDark_light (h : s.standby.dark = false) :
    s.judgeDark = { s with standby := { s.standby with timer := s.timerOn s.standby.quiet } } := by
  unfold State.judgeDark State.timerOn
  rw [if_neg (by simp [h])]
  by_cases hc : s.darkCondition = true
  · rw [if_pos hc, if_pos (show s.darkWith s.standby.quiet = true from hc)]
    split <;> rfl
  · rw [if_neg hc, if_neg (show ¬s.darkWith s.standby.quiet = true from hc)]
    rfl

/-- DARK ends and the condition is judged again (R181). -/
theorem State.leaveDark_restartDark (s : State) (c : DarkCause) :
    (s.leaveDark c).restartDark = { s with
      standby := { s.standby with dark := false, timer := s.timerAnew s.standby.quiet }
      engines := Vector.ofFn fun st : Stage => (s.engine st).brightenRefresh s.now
      reports := s.reports.offer (.darkLeave c) } :=
  State.restartDark_light rfl

end

theorem not_loudL1 (threshold : Nat) (v : Option Nat) :
    (!loudL1 threshold v) = match v with
      | some l => decide (l ≤ threshold)
      | none => true := by
  cases v with
  | none => rfl
  | some l => simp [loudL1, ← decide_not]

theorem loudL1_iff (threshold : Nat) (v : Option Nat) :
    loudL1 threshold v = true ↔ ∃ l, v = some l ∧ threshold < l := by
  cases v <;> simp [loudL1]

/-! ### Stage meters and excesses -/

section
variable {s : State} (st : Stage)

theorem State.stageStale_dark (h : s.standby.dark = true) :
    s.stageStale st = { s with standby := { s.standby with quiet := s.standby.quiet.set st true } } :=
  State.judgeDark_dark h

theorem State.stageStale_light (h : s.standby.dark = false) :
    s.stageStale st = { s with standby := { s.standby with
      quiet := s.standby.quiet.set st true, timer := s.timerOn (s.standby.quiet.set st true) } } :=
  State.judgeDark_light h

/-- The quiet mark as the stage's last L1 gives it. -/
def State.lastQuiet (s : State) (st : Stage) : Bool :=
  match s.standby.lastL1[st] with
  | some l => decide (l ≤ s.standby.threshold)
  | none => true

theorem State.stageFresh_eq : s.stageFresh st = (s.setQuiet st (s.lastQuiet st)).judgeDark := by
  rw [State.stageFresh, not_loudL1]
  rfl

theorem State.stageFresh_dark (h : s.standby.dark = true) :
    s.stageFresh st = { s with standby := { s.standby with quiet := s.standby.quiet.set st (s.lastQuiet st) } } := by
  rw [State.stageFresh_eq]
  exact State.judgeDark_dark h

theorem State.stageFresh_light (h : s.standby.dark = false) :
    s.stageFresh st = { s with standby := { s.standby with
      quiet := s.standby.quiet.set st (s.lastQuiet st)
      timer := s.timerOn (s.standby.quiet.set st (s.lastQuiet st)) } } := by
  rw [State.stageFresh_eq]
  exact State.judgeDark_light h

/-- The monitor has heard a stage's L1, before it judges. -/
def State.heardL1 (s : State) (st : Stage) (v : Option Nat) (q : Bool) : State :=
  { s with standby := { s.standby with
    lastL1 := s.standby.lastL1.set st v, quiet := s.standby.quiet.set st q } }

theorem State.stageL1_light (h : s.standby.dark = false) {v : Option Nat} {q : Bool}
    (hq : (!loudL1 s.standby.threshold v) = q) : s.stageL1 st v = { s.heardL1 st v q with
      standby := { (s.heardL1 st v q).standby with timer := s.timerOn (s.standby.quiet.set st q) } } := by
  subst hq
  rw [State.stageL1]
  exact (if_neg (by simp [h])).trans (State.judgeDark_light h)

theorem State.stageL1_dark_quiet (h : s.standby.dark = true) {v : Option Nat}
    (hl : loudL1 s.standby.threshold v = false) : s.stageL1 st v = s.heardL1 st v true := by
  have hd : (s.heardL1 st v true).standby.dark = true := h
  simp only [State.stageL1, hl]
  exact if_pos hd

theorem State.stageL1_dark_loud (h : s.standby.dark = true) {v : Option Nat}
    (hl : loudL1 s.standby.threshold v = true) :
    s.stageL1 st v = ((s.heardL1 st v false).leaveDark (.stageLevel st)).restartDark := by
  have hd : (s.heardL1 st v false).standby.dark = true := h
  simp only [State.stageL1, hl]
  exact if_pos hd

theorem State.excessTold_dark (p : SetIx) (h : s.standby.dark = true) :
    s.excessTold p = (s.leaveDark (.excess p)).restartDark := if_pos h

theorem State.excessTold_light (p : SetIx) (h : s.standby.dark = false) : s.excessTold p = s.restartDark :=
  if_neg (by simp [h])

end

/-! ### The dark timer's expiry and SET_DARK -/

theorem getLsb_meterMarks (f : Stage → Bool) (st : Stage) :
    (BitVec.ofNat 4 (marks (allStages.map f))).getLsb st = f st := by
  have bit : (BitVec.ofNat 4 (marks (allStages.map f))).getLsbD st.val = (marks (allStages.map f)).testBit st.val := by
    rw [BitVec.getLsbD_ofNat, decide_eq_true st.isLt, Bool.true_and]
  refine Eq.trans bit ?_
  rw [testBit_marks, allStages_eq, List.getD_eq_getElem?_getD]
  simp

theorem State.darkExpiry_running {s : State} {due : Nat} (h : s.standby.timer = some due) :
    s.darkExpiry = { s with
      now := max s.now due, standby := { s.standby with dark := true, timer := none }
      reports := s.reports.offer (.darkEnter (BitVec.ofNat 4 (marks (allStages.map s.hasMeter)))
        s.standby.threshold s.standby.darkTime) } := by
  simp only [State.darkExpiry, h]
  rfl

/-- The quiet marks written stage by stage. -/
theorem foldl_setQuiet (s : State) (g : Stage → Bool) :
    allStages.foldl (fun t st => t.setQuiet st (g st)) s =
      { s with standby := { s.standby with quiet := Vector.ofFn g } } := by
  have marks : (((s.standby.quiet.set 0 (g 0)).set 1 (g 1)).set 2 (g 2)).set 3 (g 3) = Vector.ofFn g := by
    refine Vector.ext fun i hi => ?_
    interval_cases i <;> simp
  exact congrArg (fun q => ({ s with standby := { s.standby with quiet := q } } : State)) marks

/-- Marks that depend on the meters and the last L1 alone, which the writing of a mark leaves. -/
theorem foldl_setQuiet_congr {s : State} {f : State → Stage → Bool} {g : Stage → Bool}
    (h : ∀ (t : State) (st : Stage), t.points = s.points → t.standby.lastL1 = s.standby.lastL1 → f t st = g st)
    (l : List Stage) {t : State} (hp : t.points = s.points) (hl : t.standby.lastL1 = s.standby.lastL1) :
    l.foldl (fun t st => t.setQuiet st (f t st)) t = l.foldl (fun t st => t.setQuiet st (g st)) t := by
  induction l generalizing t with
  | nil => rfl
  | cons st l ih =>
    rw [List.foldl_cons, List.foldl_cons, h t st hp hl]
    exact ih hp hl

/-- A stage's quiet mark as SET_DARK judges it (R179). -/
def State.quietBy (s : State) (threshold : Nat) (st : Stage) : Bool :=
  match s.meterSlot st with
  | some sl => sl.win.stale || !(loudL1 threshold s.standby.lastL1[st])
  | none => true

theorem State.quietBy_eq (s : State) (threshold : Nat) (st : Stage) : s.quietBy threshold st =
    match s.meterSlot st with
    | some sl => sl.win.stale || match s.standby.lastL1[st] with
      | some l => decide (l ≤ threshold)
      | none => true
    | none => true := by
  unfold State.quietBy
  cases s.meterSlot st with
  | none => rfl
  | some sl => exact congrArg (sl.win.stale || ·) (not_loudL1 threshold _)

section
variable {s : State} (threshold time : Nat)

theorem State.setDark_off_light (h : s.standby.dark = false) : s.setDark false threshold time = { s with
    standby := { s.standby with enable := false, threshold := threshold, darkTime := time, timer := none } } := by
  simp only [State.setDark, if_true, h, Bool.false_eq_true, if_false]
  rfl

theorem State.setDark_off_dark (h : s.standby.dark = true) : s.setDark false threshold time = { s with
    standby := { s.standby with
      enable := false, threshold := threshold, darkTime := time, dark := false, timer := none }
    engines := Vector.ofFn fun st : Stage => (s.engine st).brightenRefresh s.now
    reports := s.reports.offer (.darkLeave .disabled) } := by
  simp only [State.setDark, if_true, h]
  rfl

theorem State.setDark_on_dark (h : s.standby.dark = true) : s.setDark true threshold time = { s with
    standby := { s.standby with enable := true, threshold := threshold, darkTime := time } } := by
  simp only [State.setDark, Bool.true_eq_false, if_false, h, if_true]

/-- The monitor switched on, its marks judged by the new threshold (R179). -/
def State.darkEnabled (s : State) (threshold time : Nat) : State :=
  { s with standby := { s.standby with
    enable := true, threshold := threshold, darkTime := time, quiet := Vector.ofFn (s.quietBy threshold) } }

theorem State.darkEnabled_timer : (s.darkEnabled threshold time).timerAnew (Vector.ofFn (s.quietBy threshold)) =
    if allStages.any s.hasMeter && allStages.all (s.quietBy threshold)
      then some (s.now + time * Config.second) else none := by
  have hall : (allStages.all fun st => !s.hasMeter st || (Vector.ofFn (s.quietBy threshold))[st]) =
      allStages.all (s.quietBy threshold) := by
    refine congrArg allStages.all (funext fun st => ?_)
    rw [Fin.getElem_fin, Vector.getElem_ofFn]
    simp only [State.quietBy, State.hasMeter]
    cases s.meterSlot st <;> simp
  rw [← hall]
  rfl

theorem State.setDark_on_light (h : s.standby.dark = false) : s.setDark true threshold time = { s with
    standby := { s.standby with
      enable := true, threshold := threshold, darkTime := time, quiet := Vector.ofFn (s.quietBy threshold)
      timer := if allStages.any s.hasMeter && allStages.all (s.quietBy threshold)
        then some (s.now + time * Config.second) else none } } := by
  have set : s.setDark true threshold time = (s.darkEnabled threshold time).restartDark := by
    have marks := foldl_setQuiet { s with standby := { s.standby with
      enable := true, threshold := threshold, darkTime := time } } (s.quietBy threshold)
    unfold State.setDark
    refine ((if_neg (by decide)).trans (if_neg (by simp [h]))).trans (congrArg State.restartDark (Eq.trans ?_ marks))
    refine foldl_setQuiet_congr (s := s) (fun t st hp hl => ?_) allStages rfl rfl
    have hm : t.meterSlot st = s.meterSlot st := by
      unfold State.meterSlot State.slots
      rw [hp]
    cases hsl : s.meterSlot st with
    | none => simp only [State.quietBy, hm, hsl]
    | some sl => simp only [State.quietBy, hm, hl, hsl]
  rw [set, State.restartDark_light (s := s.darkEnabled threshold time) h, ← s.darkEnabled_timer]
  rfl

end

/-- Settles O52: the expiry, the marks and the excesses, and SET_DARK. -/
theorem darkTimerAndSettingsActOnStandby : Obligations.DarkTimerAndSettingsActOnStandby := by
  refine ⟨fun s hrun => ⟨fun h => ?_, fun due h => ?_⟩, fun s => ?_, fun s seq en t0 t1 d0 d1 hopen => ?_⟩
  · rw [exec_darkTimerExpiry, State.act_running hrun, State.darkExpiry, h]
  · refine ⟨BitVec.ofNat 4 (marks (allStages.map s.hasMeter)), fun st => ?_, ?_⟩
    · rw [getLsb_meterMarks, State.hasMeter_iff]
    · rw [exec_darkTimerExpiry, State.act_running hrun, State.darkExpiry_running h]
  · intro start holds runsOn leaves
    refine ⟨fun st => ?_, fun p => ⟨fun h => ?_, fun h => ?_⟩⟩
    · intro stale fresh
      refine ⟨fun h => ⟨State.stageStale_dark st h, State.stageFresh_dark st h⟩,
        fun h => ⟨State.stageStale_light st h, State.stageFresh_light st h⟩, fun l1 => ?_⟩
      intro loud heard
      have hloud : loudL1 s.standby.threshold l1 = true ↔ loud := loudL1_iff _ _
      refine ⟨fun hl h => State.stageL1_light st h (by simp [hloud.mpr hl]),
        fun hl h => State.stageL1_light st h (by simpa using mt hloud.mp hl), fun hl h => ?_,
        fun hl h => State.stageL1_dark_quiet st h (by simpa using mt hloud.mp hl)⟩
      rw [State.stageL1_dark_loud st h (hloud.mpr hl)]
      exact State.leaveDark_restartDark _ _
    · rw [State.excessTold_dark p h]
      exact State.leaveDark_restartDark _ _
    · rw [State.excessTold_light p h]
      exact State.restartDark_light h
  · intro threshold time reply stored quiet set
    have replies {b : List Byte} {u : State} (h : ownSetDark en.toNat (le16 t0 t1) (le16 d0 d1) s.huntConsole =
        (b, u.huntConsole)) : set = .next (u.replied 0x32 seq b).transmit :=
      State.request_owned hopen .setDark seq rfl h
    have set_to {e : Bool} {u : State} (he : flagOf en.toNat = some e)
        (hu : s.huntConsole.setDark e threshold time = u.huntConsole) :
        set = .next (u.replied 0x32 seq (stOk ++ flag e ++ u16 threshold ++ u16 time ++ flag u.standby.dark)).transmit := by
      refine replies ?_
      rw [ownSetDark, he]
      exact congrArg (fun x : State => (stOk ++ flag e ++ u16 threshold ++ u16 time ++ flag x.standby.dark, x)) hu
    refine ⟨fun h => replies ?_, ?_⟩
    · rw [ownSetDark, flagOf_eq_none h]
      rfl
    clear replies
    clear_value threshold time set
    refine ⟨fun he h => ?_, fun he h => ?_, fun he h => ?_, fun he h => ?_⟩
    · subst he
      have off := set_to (u := { s with standby := { stored false with timer := none } }) rfl
        (State.setDark_off_light (s := s.huntConsole) threshold time h)
      rw [show flag ({ s with standby := { stored false with timer := none } } : State).standby.dark = [0] from
        congrArg flag h] at off
      exact off
    · subst he
      exact ⟨_, set_to (u := { s with
        standby := { stored false with dark := false, timer := none }
        engines := Vector.ofFn fun st : Stage => (s.engine st).brightenRefresh s.now
        reports := s.reports.offer (.darkLeave .disabled) }) rfl
        (State.setDark_off_dark (s := s.huntConsole) threshold time h), rfl, fun st => by
          simp only [State.engine, Fin.getElem_fin, Vector.getElem_ofFn]
          rfl⟩
    · subst he
      have on := set_to (u := { s with standby := stored true }) rfl
        (State.setDark_on_dark (s := s.huntConsole) threshold time h)
      rw [show flag ({ s with standby := stored true } : State).standby.dark = [1] from congrArg flag h] at on
      exact on
    · subst he
      have hquiet : s.quietBy threshold = quiet := funext (s.quietBy_eq threshold)
      have on := State.setDark_on_light (s := s.huntConsole) threshold time h
      rw [show s.huntConsole.quietBy threshold = quiet from hquiet] at on
      clear_value quiet
      have on' := set_to (u := { s with standby := { stored true with
            quiet := Vector.ofFn quiet
            timer := if allStages.any s.hasMeter && allStages.all quiet
              then some (s.now + time * Config.second) else none } }) rfl on
      rw [show flag ({ s with standby := { stored true with
            quiet := Vector.ofFn quiet
            timer := if allStages.any s.hasMeter && allStages.all quiet
              then some (s.now + time * Config.second) else none } } : State).standby.dark = [0] from
        congrArg flag h] at on'
      exact on'

end Sys2Proof.Machine

/-! What a change of the point table does beside it: the column that lost its owner (R42, R104), the stage
meters (R41, R180), and the eviction of a way's slot (R50, R51, R162). -/

namespace Sys2Proof.Machine

/-! ### A cleared column (R104) -/

theorem State.clearColumn_eq_columnCleared (s : State) (p : SetIx) : s.clearColumn p = s.columnCleared p := by
  rw [State.clearColumn_eq, State.controlEvent, State.columnCleared]
  have hneeds : (s.control.cleared p).needs = Vector.ofFn fun st : Stage => (s.control.needs[st]).set p 0 := rfl
  rw [← hneeds]
  rfl

section
variable (s : State) (p q : SetIx) (st : Stage)

theorem State.columnCleared_freeze :
    (s.columnCleared p).control.freeze[q] = if q = p then .active else s.control.freeze[q] := by
  rw [← State.clearColumn_eq_columnCleared, State.clearColumn_eq, State.controlEvent_freeze, Control.cleared_freeze]

theorem State.columnCleared_couplingAt :
    (s.columnCleared p).control.couplingAt st q = if q = p then none else s.control.couplingAt st q := by
  rw [← State.clearColumn_eq_columnCleared, State.clearColumn_eq, ← Control.cleared_couplingAt]
  exact congrArg (fun rows : Vector (Vector (Option Nat) 16) 4 => rows[st][q]) (State.controlEvent_coupling _ _)

theorem State.columnCleared_needAt :
    (s.columnCleared p).control.needAt st q = if q = p then 0 else s.control.needAt st q := by
  have kept : (s.columnCleared p).control.needAt st q = (s.control.cleared p).needAt st q := by
    rw [← State.clearColumn_eq_columnCleared, State.clearColumn_eq]
    exact congrArg (fun rows : Vector (Vector Nat 16) 4 => rows[st][q]) (State.controlEvent_needs _ _)
  rw [kept]
  exact s.control.needAt_mapColumn p (fun _ _ => 0) st q

theorem State.needAt_le_columnCleared_target :
    (s.columnCleared p).control.needAt st q ≤ (s.columnCleared p).control.targets[st] := by
  rw [State.columnCleared, State.retarget_target, Control.needAt, State.retarget_needs]
  exact le_rowMax _ q

theorem State.exists_columnCleared_target :
    ∃ q, (s.columnCleared p).control.needAt st q = (s.columnCleared p).control.targets[st] := by
  simp only [State.columnCleared, State.retarget_target, Control.needAt, State.retarget_needs]
  exact exists_rowMax _

theorem State.columnCleared_congr {s t : State} (hc : t.control = s.control) (he : t.engines = s.engines)
    (hn : t.now = s.now) : (t.columnCleared p).control = (s.columnCleared p).control ∧
      (t.columnCleared p).engines = (s.columnCleared p).engines := by
  unfold State.columnCleared
  rw [State.retarget_eq, State.retarget_eq]
  refine ⟨by rw [hc], ?_⟩
  unfold State.retold State.engine
  simp only [hc, he, hn]

end

/-! ### The stage meters of the table (R41, R180) -/

theorem State.meterSlot_congr {s t : State} (h : t.points = s.points) (st : Stage) : t.meterSlot st = s.meterSlot st := by
  unfold State.meterSlot State.slots
  rw [h]

theorem State.hasMeter_congr {s t : State} (h : t.points = s.points) : t.hasMeter = s.hasMeter :=
  funext fun st => congrArg Option.isSome (State.meterSlot_congr h st)

/-- The stage's meter is another point, or none, in the other state. -/
def State.otherMeter (s u : State) (st : Stage) : Bool :=
  (s.meterSlot st).map (·.point) != (u.meterSlot st).map (·.point)

theorem State.meterIds_getElem? (s : State) (st : Stage) :
    s.meterIds[st.val]? = some ((s.meterSlot st).map (·.point)) := by
  revert st
  rw [State.meterIds, allStages_eq]
  simp

theorem State.meterIds_eq_iff {s u : State} : u.meterIds = s.meterIds ↔ ∀ st, s.otherMeter u st = false := by
  simp only [State.meterIds, State.otherMeter, bne_eq_false_iff_eq, List.map_inj_left, mem_allStages, true_imp_iff]
  exact forall_congr' fun st => eq_comm

/-- The monitor forgets the meters of some stages. -/
def State.forgotten (s : State) (c : Stage → Bool) : State :=
  { s with standby := { s.standby with
    quiet := Vector.ofFn fun st : Stage => c st || s.standby.quiet[st]
    lastL1 := Vector.ofFn fun st : Stage => if c st then none else s.standby.lastL1[st] } }

theorem State.forgetMeter_if (s : State) (c : Bool) (st : Stage) :
    (if c then s.forgetMeter st else s) = { s with standby := { s.standby with
      quiet := s.standby.quiet.set st (c || s.standby.quiet[st])
      lastL1 := s.standby.lastL1.set st (if c then none else s.standby.lastL1[st]) } } := by
  cases c
  · simp
  · rfl

theorem foldl_forgetMeter (s : State) (c : Stage → Bool) :
    allStages.foldl (fun t st => if c st then t.forgetMeter st else t) s = s.forgotten c := by
  simp only [State.forgetMeter_if]
  have marks : ∀ {α : Type} (v : Vector α 4) (f : Stage → α → α),
      (let v0 := v.set 0 (f 0 v[0]); let v1 := v0.set 1 (f 1 v0[1]); let v2 := v1.set 2 (f 2 v1[2])
        v2.set 3 (f 3 v2[3])) = Vector.ofFn fun st : Stage => f st v[st] := by
    intro α v f
    refine Vector.ext fun i hi => ?_
    interval_cases i <;> simp
  have quiet := marks s.standby.quiet fun st q => c st || q
  have lastL1 := marks s.standby.lastL1 fun st l => if c st then none else l
  unfold State.forgotten
  rw [← quiet, ← lastL1]
  rfl

theorem State.forgotten_none {s : State} {c : Stage → Bool} (h : ∀ st, c st = false) : s.forgotten c = s := by
  have hquiet : (Vector.ofFn fun st : Stage => c st || s.standby.quiet[st]) = s.standby.quiet :=
    Vector.ext fun i hi => by simp [h]
  have hlast : (Vector.ofFn fun st : Stage => if c st then none else s.standby.lastL1[st]) = s.standby.lastL1 :=
    Vector.ext fun i hi => by simp [h]
  rw [State.forgotten, hquiet, hlast]

theorem State.metersChanged_same {s u : State} (h : ∀ st, s.otherMeter u st = false) : u.metersChanged s.meterIds = u :=
  if_pos (State.meterIds_eq_iff.mpr h)

theorem State.metersChanged_other {s u : State} (h : ¬∀ st, s.otherMeter u st = false) :
    u.metersChanged s.meterIds = (u.forgotten (s.otherMeter u)).restartDark := by
  unfold State.metersChanged
  refine (if_neg (mt State.meterIds_eq_iff.mp h)).trans (congrArg State.restartDark ?_)
  refine Eq.trans (List.foldl_ext _ _ _ fun t st _ => ?_) (foldl_forgetMeter u _)
  simp only [State.meterIds_getElem?, Option.some.injEq]
  by_cases hst : (u.meterSlot st).map (·.point) = (s.meterSlot st).map (·.point)
  · rw [if_pos hst, if_neg (by simp [State.otherMeter, hst])]
  · rw [if_neg hst, if_pos (by simpa [State.otherMeter] using Ne.symm hst)]

/-- The table's change reaches the monitor as R180 says. -/
theorem State.monitorFollows_metersChanged {s u : State} (hb : u.standby = s.standby) (hn : u.now = s.now) :
    s.MonitorFollowsMeters (u.metersChanged s.meterIds) := by
  have hm : ∀ st, (u.metersChanged s.meterIds).meterSlot st = u.meterSlot st :=
    State.meterSlot_congr (State.metersChanged_points ..)
  have hh : (u.metersChanged s.meterIds).hasMeter = u.hasMeter := State.hasMeter_congr (State.metersChanged_points ..)
  simp only [State.MonitorFollowsMeters, hm, hh]
  change (u.metersChanged s.meterIds).standby = { (s.forgotten (s.otherMeter u)).standby with
    timer := if s.standby.dark = true ∨ (∀ st, s.otherMeter u st = false) then s.standby.timer
      else if s.standby.enable && allStages.any u.hasMeter &&
          allStages.all (fun st => !u.hasMeter st ||
            (Vector.ofFn fun st : Stage => s.otherMeter u st || s.standby.quiet[st])[st]) then
        some (s.now + s.standby.darkTime * Config.second)
      else none }
  by_cases hsame : ∀ st, s.otherMeter u st = false
  · rw [State.metersChanged_same hsame, if_pos (.inr hsame), State.forgotten_none hsame, hb]
  · rw [State.metersChanged_other hsame]
    cases hd : s.standby.dark with
    | true =>
      rw [State.restartDark_dark (by rw [State.forgotten, hb]; exact hd), State.forgotten, hb]
      simp [State.forgotten]
    | false =>
      rw [State.restartDark_light (by rw [State.forgotten, hb]; exact hd), if_neg (by simpa using hsame)]
      simp only [State.forgotten, State.timerAnew, State.darkWith, hb, hn]
      rfl

/-! ### Columns and meters after a request changed the table -/

section
variable {s before : State} {p : SetIx}

/-- The column keeps its owner, or had none. -/
def State.KeepsOwner (s before : State) (p : SetIx) : Prop :=
  (before.points[p]).owner = (s.points[p]).owner ∨ (before.points[p]).owner = none

theorem State.tableChanged_kept (h : s.KeepsOwner before p) :
    s.tableChanged before p = s.metersChanged before.meterIds :=
  congrArg (State.metersChanged · _) (if_pos h)

theorem State.tableChanged_lost (h : ¬s.KeepsOwner before p) :
    s.tableChanged before p = (s.columnCleared p).metersChanged before.meterIds :=
  congrArg (State.metersChanged · _) ((if_neg h).trans (s.clearColumn_eq_columnCleared p))

theorem State.tableChanged_monitor (hb : s.standby = before.standby) (hn : s.now = before.now) :
    before.MonitorFollowsMeters (s.tableChanged before p) := by
  by_cases h : s.KeepsOwner before p
  · rw [State.tableChanged_kept h]
    exact State.monitorFollows_metersChanged hb hn
  · rw [State.tableChanged_lost h]
    refine State.monitorFollows_metersChanged ?_ ?_
    · rw [State.columnCleared, State.retarget_eq]
      exact hb
    · rw [State.columnCleared, State.retarget_eq]
      exact hn

theorem State.tableChanged_control_kept (h : s.KeepsOwner before p) :
    (s.tableChanged before p).control = s.control ∧ (s.tableChanged before p).engines = s.engines := by
  rw [State.tableChanged_kept h]
  exact ⟨State.metersChanged_control .., State.metersChanged_engines ..⟩

theorem State.tableChanged_control_lost (h : ¬s.KeepsOwner before p) :
    (s.tableChanged before p).control = (s.columnCleared p).control ∧
      (s.tableChanged before p).engines = (s.columnCleared p).engines := by
  rw [State.tableChanged_lost h]
  exact ⟨State.metersChanged_control .., State.metersChanged_engines ..⟩

end

/-! ### Eviction (R50, R51, R162) -/

section
variable (s : State) (p : SetIx) (w : Way) (cause : CloseCause)

/-- The reports after a way's slot has been closed. -/
def State.closedReports : Reports :=
  match s.slotAt p w with
  | some sl =>
    if sl.dirty then s.reports.offer
      (.pointClosed sl.point sl.use sl.minute sl.win.secs sl.win.worstL1 sl.win.worstPeak cause)
    else s.reports
  | none => s.reports

/-- The state after a way has been vacated. -/
def State.vacated : State :=
  { s with
    points := s.points.set p ((s.points[p]).put w none)
    reports := s.closedReports p w cause
    exporter := { s.exporter with
      list := s.exporter.list.map fun e =>
        if (s.slotAt p w).isSome = true ∧ e.set = p ∧ e.way = w then { e with intact := false } else e } }

end

section
variable {s : State} {p : SetIx} {w : Way} {cause : CloseCause}

theorem State.closedReports_some {sl : Slot} (h : s.slotAt p w = some sl) : s.closedReports p w cause =
    if sl.dirty then s.reports.offer
      (.pointClosed sl.point sl.use sl.minute sl.win.secs sl.win.worstL1 sl.win.worstPeak cause)
    else s.reports := by
  rw [State.closedReports, h]

theorem State.closedReports_clean (h : ∀ sl, s.slotAt p w = some sl → sl.dirty = false) :
    s.closedReports p w cause = s.reports := by
  unfold State.closedReports
  split
  · next sl hsl => rw [h sl hsl]; rfl
  · rfl

/-- A notice that is not routine is refused back only by a full queue without a routine entry. -/
theorem Reports.offerClosed_some {r : Reports} {n : Notice} (hn : n.cls ≠ .routine)
    (h : r.queue.length < 48 ∨ ∃ e ∈ r.queue, e.notice.cls = .routine) : r.offerClosed n = some (r.offer n) := by
  unfold Reports.offerClosed Reports.offer
  by_cases hf : r.full = false
  · rw [if_pos hf, if_pos hf]
  · have hr : r.hasRoutine = true := r.hasRoutine_iff.mpr (h.resolve_left fun hl => hf (r.not_full_iff.mpr hl))
    rw [if_neg hf, if_neg hf, if_pos hr, if_pos ⟨hn, hr⟩]

theorem Reports.offerClosed_none {r : Reports} {n : Notice} (hq : 48 ≤ r.queue.length)
    (h : ∀ e ∈ r.queue, e.notice.cls ≠ .routine) : r.offerClosed n = none := by
  have hf : r.full = true := r.full_iff.mpr hq
  have hr : ¬r.hasRoutine = true := fun hr => by
    obtain ⟨e, he, hc⟩ := r.hasRoutine_iff.mp hr
    exact h e he hc
  rw [Reports.offerClosed, if_neg (by simp [hf]), if_neg hr]

theorem State.evict_refused {sl : Slot} (hsl : s.slotAt p w = some sl) (hd : sl.dirty = true)
    (hq : 48 ≤ s.reports.queue.length) (h : ∀ e ∈ s.reports.queue, e.notice.cls ≠ .routine) :
    s.evict p w cause = none := by
  simp only [State.evict, hsl, hd, if_true, Reports.offerClosed_none hq h]

theorem State.evict_eq (h : ∀ sl, s.slotAt p w = some sl → sl.dirty = false ∨ s.reports.queue.length < 48 ∨
    ∃ e ∈ s.reports.queue, e.notice.cls = .routine) : s.evict p w cause = some (s.vacated p w cause) := by
  unfold State.evict
  cases hsl : s.slotAt p w with
  | none =>
    have hput : (s.points[p]).put w none = s.points[p] := (congrArg _ hsl.symm).trans (PointSet.put_get _ w)
    have hpoints : s.points.set p ((s.points[p]).put w none) = s.points := by rw [hput]; simp
    unfold State.vacated State.closedReports
    rw [hpoints, hsl]
    simp
  | some sl =>
    have vacated : s.vacated p w cause =
        ({ s with reports := s.closedReports p w cause } : State).freeSlot p w := by
      simp only [State.vacated, hsl, Option.isSome_some, true_and]
      rfl
    rw [vacated, State.closedReports_some hsl]
    cases hd : sl.dirty with
    | false => simp only [hd, Bool.false_eq_true, if_false]
    | true =>
      have room := (h sl hsl).resolve_left (by simp [hd])
      simp only [hd, if_true, Slot.closing, Reports.offerClosed_some (n := .pointClosed ..) (by simp [Notice.cls]) room]

theorem State.vacated_slotAt (q : SetIx) (v : Way) :
    (s.vacated p w cause).slotAt q v = if q = p ∧ v = w then none else s.slotAt q v :=
  State.slotAt_putSlot s p q w v none

theorem State.vacated_points_of_ne {q : SetIx} (h : q ≠ p) : (s.vacated p w cause).points[q] = s.points[q] :=
  State.points_putSlot_of_ne s w none h

end

end Sys2Proof.Machine

/-! DECLARE_POINT (R45 to R48) and RELEASE_POINT (R53): what is refused, what they write, and what follows. -/

namespace Sys2Proof.Machine

/-- A request whose owner's work leaves the console link as it found it. -/
theorem State.request_worked {s t : State} (h : s.Open) (k : RequestKind) (seq : Byte) {body b : List Byte}
    (hl : body.length = k.length) (ho : ownerReply k seq body s.huntConsole = (b, t))
    (hc : t.console = s.huntConsole.console) :
    s.act (·.requestFrame k.code seq body) =
      .next (({ t with console := s.console } : State).replied k.code seq b).transmit := by
  have hunted : t = ({ t with console := s.console } : State).huntConsole := by
    cases t
    cases hc
    rfl
  exact State.request_owned h k seq hl (ho.trans (congrArg (Prod.mk b) hunted))

/-! ### What follows a changed table -/

section
variable {s t : State} {p : SetIx}

/-- The engines, the control block and the monitor after a request that led from s to t and then told the
table's change. -/
theorem State.tableChanged_tells (hc : t.control = s.control) (he : t.engines = s.engines) (hn : t.now = s.now)
    (hb : t.standby = s.standby) :
    (¬t.KeepsOwner s p → (t.tableChanged s p).control = (s.columnCleared p).control ∧
      (t.tableChanged s p).engines = (s.columnCleared p).engines) ∧
    (t.KeepsOwner s p → (t.tableChanged s p).control = s.control ∧ (t.tableChanged s p).engines = s.engines) ∧
    s.MonitorFollowsMeters (t.tableChanged s p) := by
  obtain ⟨hcc, hce⟩ := State.columnCleared_congr p hc he hn
  refine ⟨fun h => ?_, fun h => ?_, State.tableChanged_monitor hb hn⟩
  · rw [← hcc, ← hce]
    exact State.tableChanged_control_lost h
  · rw [← hc, ← he]
    exact State.tableChanged_control_kept h

end

/-! ### The fields of a declaration (R45) -/

theorem useOf_code (u : Use) : useOf u.roleCode u.place = some u := by
  cases u with
  | stage st => simp [useOf, Use.roleCode, Use.place, show st.val < 8 by omega]
  | _ z => simp [useOf, Use.roleCode, Use.place]

theorem useOf_eq_none {role place : Nat}
    (h : 4 ≤ role ∨ (role ≠ 2 ∧ 8 ≤ place) ∨ (role = 2 ∧ 4 ≤ place)) : useOf role place = none := by
  unfold useOf
  split
  · next hz =>
    have hrole : 4 ≤ role ∨ (role = 2 ∧ 4 ≤ place) := by omega
    rw [if_neg (by omega), if_neg (by omega), if_neg (by omega)]
    split
    · exact if_neg (by omega)
    · rfl
  · rfl

theorem useOf_roaming {place : Nat} {u : Use} (h : useOf 3 place = some u) : u.isRoaming = true := by
  simp only [useOf, OfNat.ofNat_ne_zero, OfNat.ofNat_ne_one, if_false, if_true] at h
  split at h
  · cases h; rfl
  · cases h

theorem flagOf_of_le_one {b : Byte} (h : b = 0 ∨ b = 1) : flagOf b.toNat = some (decide (b = 1)) := by
  rcases h with rfl | rfl <;> rfl

section
variable {s : State}

theorem ownDeclare_refused {id role place lock : Nat}
    (h : 1024 ≤ id ∨ 4 ≤ role ∨ (role ≠ 2 ∧ 8 ≤ place) ∨ (role = 2 ∧ 4 ≤ place) ∨ 2 ≤ lock ∨
      (lock = 1 ∧ role = 3)) :
    ownDeclare id role place lock s = (stBadField, s) := by
  unfold ownDeclare
  split
  · next pt use l hpt hu hl =>
    have hroam : l = true ∧ use.isRoaming = true := by
      rcases h with h | h | h | h | h | ⟨rfl, rfl⟩
      · rw [pointOf_eq_none h] at hpt; cases hpt
      · rw [useOf_eq_none (.inl h)] at hu; cases hu
      · rw [useOf_eq_none (.inr (.inl h))] at hu; cases hu
      · rw [useOf_eq_none (.inr (.inr h))] at hu; cases hu
      · rw [flagOf_eq_none h] at hl; cases hl
      · cases hl
        exact ⟨rfl, useOf_roaming hu⟩
    exact if_pos hroam
  · rfl
  · rfl
  · rfl

theorem ownDeclare_fields {pt : PointId} {use : Use} {id role place : Nat} {lock : Byte} (hid : id = pt.val)
    (hr : role = use.roleCode) (hp : place = use.place) (hl : lock = 0 ∨ (lock = 1 ∧ role ≠ 3)) :
    ownDeclare id role place lock.toNat s = s.declare pt use (decide (lock = 1)) := by
  subst hid hr hp
  unfold ownDeclare
  rw [pointOf_val, useOf_code, flagOf_of_le_one (hl.imp_right And.left)]
  refine if_neg ?_
  rintro ⟨hlock, hroam⟩
  rcases hl with rfl | ⟨_, hne⟩
  · cases hlock
  · cases use with
    | roaming z => exact hne rfl
    | _ z => cases hroam

/-! ### The checks of a declaration, in order (R45, R47) -/

variable {pt : PointId} {use : Use} {lock : Bool}

theorem State.declare_taken (h : s.stageTaken pt use = true) : s.declare pt use lock = (stStageTaken, s) := if_pos h

theorem State.declare_locked (ht : s.stageTaken pt use = false) (hl : lock = true)
    (hb : (s.points[setOf pt]).lockedByOther pt = true) : s.declare pt use lock = (stSetLocked, s) :=
  (if_neg (by simp [ht])).trans (if_pos ⟨hl, hb⟩)

theorem State.declare_absent (ht : s.stageTaken pt use = false)
    (hl : lock = true → (s.points[setOf pt]).lockedByOther pt = false) (hf : (s.points[setOf pt]).find pt = none) :
    s.declare pt use lock = s.placePoint pt use lock := by
  unfold State.declare
  refine ((if_neg (by simp [ht])).trans (if_neg fun ⟨h, hb⟩ => absurd hb (by rw [hl h]; decide))).trans ?_
  simp only [hf]

theorem State.declare_present (ht : s.stageTaken pt use = false)
    (hl : lock = true → (s.points[setOf pt]).lockedByOther pt = false) {w : Way}
    (hf : (s.points[setOf pt]).find pt = some w) :
    s.declare pt use lock =
      (declareReply (setOf pt) ((s.points[setOf pt]).redeclare w use lock).2.1
          ((s.points[setOf pt]).redeclare w use lock).2.2 none,
        (s.setPoints (setOf pt) ((s.points[setOf pt]).redeclare w use lock).1).tableChanged s (setOf pt)) := by
  unfold State.declare
  refine ((if_neg (by simp [ht])).trans (if_neg fun ⟨h, hb⟩ => absurd hb (by rw [hl h]; decide))).trans ?_
  simp only [hf]
  rfl

theorem State.placePoint_noSlot (h : (s.points[setOf pt]).wayFor lock = none) :
    s.placePoint pt use lock = (stNoSlot, s) := by
  simp only [State.placePoint, h]

theorem State.placePoint_busy {w : Way} (hw : (s.points[setOf pt]).wayFor lock = some w)
    (he : s.evict (setOf pt) w .evictedByDeclaration = none) : s.placePoint pt use lock = (stTableBusy, s) := by
  simp only [State.placePoint, hw, he]

theorem State.stageTaken_eq_true {st : Stage} {sl : Slot} (hm : s.meterSlot st = some sl) (hp : sl.point ≠ pt) :
    s.stageTaken pt (.stage st) = true := by
  simpa only [State.stageTaken, hm, bne_iff_ne] using hp

theorem PointSet.lockedByOther_eq_true {ps : PointSet} {sl : Slot} (h1 : ps.way1 = some sl) (hl : sl.locked = true)
    (hp : sl.point ≠ pt) : ps.lockedByOther pt = true := by
  simp [PointSet.lockedByOther, h1, hl, hp]

theorem PointSet.wayFor_eq (ps : PointSet) (b : Byte) :
    ps.wayFor (decide (b = 1)) = if b = 1 then some .one else ps.victim := by
  simp [PointSet.wayFor]

end

/-- Settles O53: the checks of DECLARE_POINT, each under the passing of those before it. -/
theorem declarationsAreRefusedInOrder : Obligations.DeclarationsAreRefusedInOrder := by
  intro s seq p0 p1 role place lock hopen declare refused
  have refuses {b : List Byte} (h : ownDeclare (le16 p0 p1) role.toNat place.toNat lock.toNat s.huntConsole =
      (b, s.huntConsole)) : declare = .next (s.replied 0x10 seq b).transmit :=
    State.request_owned hopen .declarePoint seq rfl h
  refine ⟨fun h => refuses (ownDeclare_refused ?_), fun pt use hid hr hp hl => ?_⟩
  · have h2 : role = 2 ↔ role.toNat = 2 := BitVec.toNat_inj.symm
    have h3 : role = 3 ↔ role.toNat = 3 := BitVec.toNat_inj.symm
    have hlock : lock = 1 ↔ lock.toNat = 1 := BitVec.toNat_inj.symm
    rwa [ne_eq, h2, h3, hlock] at h
  have hrole : lock = 0 ∨ (lock = 1 ∧ role.toNat ≠ 3) :=
    hl.imp_right fun ⟨h1, h3⟩ => ⟨h1, fun e => h3 (BitVec.eq_of_toNat_eq e)⟩
  rw [ownDeclare_fields hid hr hp hrole] at refuses
  intro ps
  have hpoints : s.huntConsole.points[setOf pt] = ps := rfl
  refine ⟨fun st sl hu hm hne => ?_, fun hmeter => ?_⟩
  · subst hu
    exact refuses (State.declare_taken (State.stageTaken_eq_true (s := s.huntConsole) hm hne))
  have ht : s.huntConsole.stageTaken pt use = false := State.stageTaken_eq_false_iff.mpr hmeter
  refine ⟨fun sl h1 hway hlocked hne => ?_, fun hfree hfind => ?_⟩
  · exact refuses (State.declare_locked ht (decide_eq_true h1)
      (PointSet.lockedByOther_eq_true (ps := ps) hway hlocked hne))
  have hother : decide (lock = 1) = true → ps.lockedByOther pt = false := fun h =>
    PointSet.lockedByOther_eq_false_iff.mpr fun sl => hfree sl (of_decide_eq_true h)
  rw [State.declare_absent ht hother hfind] at refuses
  have hway : ps.wayFor (decide (lock = 1)) = if lock = 1 then some .one else ps.victim := ps.wayFor_eq lock
  refine ⟨fun h0 hv => ?_, fun w sl hw hsl hd hq hnone => ?_⟩
  · refine refuses (State.placePoint_noSlot (hway.trans ?_))
    rw [if_neg (by rw [h0]; decide), hv]
  · exact refuses (State.placePoint_busy (hway.trans hw) (State.evict_refused (s := s.huntConsole) hsl hd hq hnone))

/-! ### A present point that is declared anew (R46) -/

section
variable (ps : PointSet) (w : Way) (use : Use) (lock : Bool)

theorem PointSet.redeclare_way : (ps.redeclare w use lock).2.1 = if lock = true then .one else w := by
  cases w <;> cases lock <;> rfl

theorem PointSet.redeclare_moved :
    (ps.redeclare w use lock).2.2 = decide (w ≠ (ps.redeclare w use lock).2.1) := by
  cases w <;> cases lock <;> rfl

theorem declareReply_eq (p : SetIx) (moved : Bool) (evicted : Option PointId) : declareReply p w moved evicted =
    u8 0 ++ u8 p.val ++ u8 w.code ++ u8 (if moved then 1 else 0) ++
      u16 ((evicted.map (·.val)).getD 65535) := rfl

variable {ps w} {sl : Slot} (h : ps.get w = some sl)
include h

theorem PointSet.redeclare_there : (ps.redeclare w use lock).1.get (ps.redeclare w use lock).2.1 =
    some { sl with use := use, locked := lock } := by
  rw [(PointSet.redeclare_cases h use lock).1, PointSet.get_touch, PointSet.get_put_of_ne _ _ (Way.other_ne _).symm,
    PointSet.get_put_self]

theorem PointSet.redeclare_beside : (ps.redeclare w use lock).1.get (ps.redeclare w use lock).2.1.other =
    if w = (ps.redeclare w use lock).2.1 then ps.get (ps.redeclare w use lock).2.1.other
    else ps.get (ps.redeclare w use lock).2.1 := by
  rw [(PointSet.redeclare_cases h use lock).1, PointSet.get_touch, PointSet.get_put_self]
  split
  · next hw => rw [← hw]
  · rfl

theorem PointSet.redeclare_lru : (ps.redeclare w use lock).1.lru = (ps.redeclare w use lock).2.1.other := by
  rw [(PointSet.redeclare_cases h use lock).1, PointSet.touch_lru]

end

/-! ### A point that takes a vacated way (R47) -/

/-- The state in which an absent point has taken a way of its set. -/
def State.seated (s : State) (w : Way) (cause : CloseCause) (pt : PointId) (use : Use) (lock : Bool) : State :=
  (s.vacated (setOf pt) w cause).fill w pt use lock

section
variable {s : State} {w : Way} {cause : CloseCause} {pt : PointId} {use : Use} {lock : Bool}

theorem State.seated_slotAt (q : SetIx) (v : Way) : (s.seated w cause pt use lock).slotAt q v =
    if q = setOf pt ∧ v = w then some (Slot.new pt use lock) else s.slotAt q v := by
  rw [State.seated, State.slotAt_fill]
  split
  · rfl
  · next h => rw [State.vacated_slotAt, if_neg h]

theorem State.seated_points_of_ne {q : SetIx} (h : q ≠ setOf pt) :
    (s.seated w cause pt use lock).points[q] = s.points[q] :=
  (State.points_putSlot_of_ne _ w _ h).trans (State.vacated_points_of_ne h)

end

theorem State.points_touch_of_ne (s : State) {p q : SetIx} (w : Way) (h : q ≠ p) :
    (s.touch p w).points[q] = s.points[q] := s.points_setPoints_of_ne _ h

/-- The state in which an absent point has taken a way of its set, and the way is touched. -/
def State.placed (s : State) (w : Way) (cause : CloseCause) (pt : PointId) (use : Use) (lock : Bool) : State :=
  (s.seated w cause pt use lock).touch (setOf pt) w

section
variable (s : State) (w : Way) (cause : CloseCause) (pt : PointId) (use : Use) (lock : Bool)

theorem State.placed_slotAt (q : SetIx) (v : Way) : (s.placed w cause pt use lock).slotAt q v =
    if q = setOf pt ∧ v = w then some (Slot.new pt use lock) else s.slotAt q v := by
  rw [State.placed, State.slotAt_touch, State.seated_slotAt]

theorem State.placed_lru : ((s.placed w cause pt use lock).points[setOf pt]).lru = w.other := by
  simp [State.placed, State.touch]

theorem State.placed_points_of_ne (q : SetIx) (h : q ≠ setOf pt) :
    (s.placed w cause pt use lock).points[q] = s.points[q] :=
  (State.points_touch_of_ne _ w h).trans (State.seated_points_of_ne h)

theorem State.placed_frame : s.placed w cause pt use lock = { s with
    points := (s.placed w cause pt use lock).points
    reports := s.closedReports (setOf pt) w cause
    exporter := (s.vacated (setOf pt) w cause).exporter } := rfl

end

section
variable {s : State} {w : Way} {cause : CloseCause} {pt : PointId} {use : Use} {lock : Bool}

theorem State.placePoint_eq (hw : (s.points[setOf pt]).wayFor lock = some w)
    (hroom : ∀ sl, s.slotAt (setOf pt) w = some sl → sl.dirty = false ∨ s.reports.queue.length < 48 ∨
      ∃ e ∈ s.reports.queue, e.notice.cls = .routine) :
    s.placePoint pt use lock =
      (declareReply (setOf pt) w false ((s.slotAt (setOf pt) w).map (·.point)),
        (s.placed w .evictedByDeclaration pt use lock).tableChanged s (setOf pt)) := by
  simp only [State.placePoint, hw, State.evict_eq hroom]
  rfl

/-- The way an absent point takes does not hold the column's owner (R42, R45, R49). -/
theorem State.placed_keepsOwner (hw : (s.points[setOf pt]).wayFor lock = some w)
    (hl : lock = true → (s.points[setOf pt]).lockedByOther pt = false)
    (hf : (s.points[setOf pt]).find pt = none) :
    (s.placed w cause pt use lock).KeepsOwner s (setOf pt) := by
  cases w with
  | zero =>
    refine .inl (State.owner_of_slotAt ?_).symm
    rw [State.placed_slotAt, if_neg (by simp)]
  | one =>
    refine .inr ?_
    cases lock with
    | false => exact PointSet.owner_eq_none_of_victim_one hw
    | true =>
      cases howner : (s.points[setOf pt]).owner with
      | none => rfl
      | some o =>
        obtain ⟨sl, h1, hlocked, _, _⟩ := PointSet.owner_eq_some.mp howner
        exact absurd (PointSet.lockedByOther_eq_false_iff.mp (hl rfl) sl h1 hlocked)
          (PointSet.find_none (w := .one) hf h1)

end

theorem flag_not (P : Prop) [Decidable P] : u8 (if decide (¬P) then 1 else 0) = u8 (if P then 0 else 1) := by
  by_cases h : P <;> simp [h]

theorem State.keepsOwner_iff {s before : State} {p : SetIx} : s.KeepsOwner before p ↔
    ¬((before.points[p]).owner ≠ none ∧ (s.points[p]).owner ≠ (before.points[p]).owner) := by
  unfold State.KeepsOwner
  rw [not_and_or, not_not, not_not, or_comm]
  exact or_congr_right eq_comm

/-- Settles O54: a declaration of a present point, and of an absent one. -/
theorem declarationsPlaceTheirPoint : Obligations.DeclarationsPlaceTheirPoint := by
  intro s seq p0 p1 role place lock pt use hopen hid hr hp hl hmeter p ps hfree declare
  have hrole : lock = 0 ∨ (lock = 1 ∧ role.toNat ≠ 3) :=
    hl.imp_right fun ⟨h1, h3⟩ => ⟨h1, fun e => h3 (BitVec.eq_of_toNat_eq e)⟩
  have replies {b : List Byte} {t : State} (h : s.huntConsole.declare pt use (decide (lock = 1)) = (b, t))
      (hc : t.console = s.huntConsole.console) :
      declare = .next (({ t with console := s.console } : State).replied 0x10 seq b).transmit :=
    State.request_worked hopen .declarePoint seq rfl
      (((ownerReply_declarePoint ..).trans (ownDeclare_fields hid hr hp hrole)).trans h) hc
  have ht : s.huntConsole.stageTaken pt use = false := State.stageTaken_eq_false_iff.mpr hmeter
  have hother : decide (lock = 1) = true → ps.lockedByOther pt = false := fun h =>
    PointSet.lockedByOther_eq_false_iff.mpr fun sl => hfree sl (of_decide_eq_true h)
  refine ⟨?_, fun hfind w hw hroom => ?_⟩
  · intro w sl hfind hsl there
    have hthere : (ps.redeclare w use (decide (lock = 1))).2.1 = there := by
      rw [PointSet.redeclare_way]
      simp [there]
    have hmoved := PointSet.redeclare_moved ps w use (decide (lock = 1))
    have said := State.declare_present (s := s.huntConsole) ht hother hfind
    have hself := PointSet.redeclare_there use (decide (lock = 1)) hsl
    have hbeside := PointSet.redeclare_beside use (decide (lock = 1)) hsl
    have hlru := PointSet.redeclare_lru use (decide (lock = 1)) hsl
    rw [show s.huntConsole.points[setOf pt] = ps from rfl, hmoved, declareReply_eq, flag_not] at said
    rw [hthere] at said hself hbeside hlru
    generalize (ps.redeclare w use (decide (lock = 1))).1 = ps1 at *
    have hset : (s.huntConsole.setPoints p ps1).points[p] = ps1 := State.points_setPoints_self ..
    obtain ⟨lost, kept, monitor⟩ := State.tableChanged_tells (s := s.huntConsole)
      (t := s.huntConsole.setPoints p ps1) (p := p) rfl rfl rfl rfl
    obtain ⟨hcc, hce⟩ := State.columnCleared_congr (s := s) (t := s.huntConsole) p rfl rfl rfl
    rw [State.keepsOwner_iff, hset] at lost kept
    rw [hcc, hce] at lost
    have hpoints := (s.huntConsole.setPoints p ps1).tableChanged_points s.huntConsole p
    obtain ⟨c, e, b, hframe⟩ := (s.huntConsole.setPoints p ps1).tableChanged_frame s.huntConsole p
    generalize (s.huntConsole.setPoints p ps1).tableChanged s.huntConsole p = t at *
    have hp1 : t.points[p] = ps1 := by rw [hpoints, hset]
    refine ⟨_, replies said (by rw [hframe]; rfl), ?_, ?_, ?_, fun q hq => ?_,
      ⟨fun h => ?_, fun h => ?_⟩, monitor, ?_⟩
    · exact (congrArg (PointSet.get · there) hp1).trans hself
    · exact (congrArg (PointSet.get · there.other) hp1).trans hbeside
    · exact (congrArg PointSet.lru hp1).trans hlru
    · exact (congrArg (fun x : Vector PointSet 16 => x[q]) hpoints).trans (s.points_setPoints_of_ne ps1 hq)
    · exact lost (not_not.mpr ⟨h.1, hp1 ▸ h.2⟩)
    · exact kept fun h' => h ⟨h'.1, by rw [hp1]; exact h'.2⟩
    · rw [hframe]
      rfl
  · have hway : ps.wayFor (decide (lock = 1)) = some w := (ps.wayFor_eq lock).trans hw
    have said := (State.declare_absent (s := s.huntConsole) ht hother hfind).trans
      (State.placePoint_eq (use := use) hway hroom)
    have keeps := State.placed_keepsOwner (s := s.huntConsole) (cause := .evictedByDeclaration) (use := use)
      hway hother hfind
    rw [declareReply_eq, Option.map_map] at said
    have hslot := s.huntConsole.placed_slotAt w .evictedByDeclaration pt use (decide (lock = 1))
    have hlru := s.huntConsole.placed_lru w .evictedByDeclaration pt use (decide (lock = 1))
    have hne := s.huntConsole.placed_points_of_ne w .evictedByDeclaration pt use (decide (lock = 1))
    have hframe := s.huntConsole.placed_frame w .evictedByDeclaration pt use (decide (lock = 1))
    generalize s.huntConsole.placed w .evictedByDeclaration pt use (decide (lock = 1)) = X at *
    obtain ⟨_, kept, monitor⟩ := State.tableChanged_tells (s := s.huntConsole) (t := X) (p := p)
      (by rw [hframe]) (by rw [hframe]) (by rw [hframe]) (by rw [hframe])
    obtain ⟨hc, he⟩ := kept keeps
    have hpoints := X.tableChanged_points s.huntConsole p
    obtain ⟨c, e, b, htold⟩ := X.tableChanged_frame s.huntConsole p
    change _ = (_, X.tableChanged s.huntConsole p) at said
    generalize X.tableChanged s.huntConsole p = t at *
    have htslot (q : SetIx) (v : Way) : t.slotAt q v = X.slotAt q v := State.slotAt_congr hpoints q v
    have hreports : t.reports = s.closedReports p w .evictedByDeclaration := by
      rw [htold]
      exact congrArg State.reports hframe
    refine ⟨_, replies said (by rw [htold, hframe]), ?_, ?_, ?_, fun q hq => ?_, fun h => ?_, fun sl hsl hd => ?_,
      monitor, ?_⟩
    · exact (htslot p w).trans ((hslot p w).trans (if_pos ⟨rfl, rfl⟩))
    · exact (htslot p w.other).trans ((hslot p w.other).trans (if_neg fun h => Way.other_ne w h.2))
    · exact (congrArg (fun x : Vector PointSet 16 => (x[p]).lru) hpoints).trans hlru
    · exact (congrArg (fun x : Vector PointSet 16 => x[q]) hpoints).trans (hne q hq)
    · exact hreports.trans (State.closedReports_clean h)
    · exact hreports.trans ((State.closedReports_some hsl).trans (if_pos hd))
    · rw [htold] at hc he ⊢
      dsimp only at hc he ⊢
      rw [hc, he, hframe]
      rfl

/-! ### RELEASE_POINT (R53) -/

section
variable {s : State}

theorem ownRelease_badPoint {id : Nat} (h : 1024 ≤ id) : ownRelease id s = (stBadField, s) := by
  simp only [ownRelease, pointOf_eq_none h]

theorem ownRelease_unknown {pt : PointId} (h : (s.points[setOf pt]).find pt = none) :
    ownRelease pt.val s = (stUnknownPoint, s) := by
  simp only [ownRelease, pointOf_val, h]

theorem ownRelease_busy {pt : PointId} {w : Way} (h : (s.points[setOf pt]).find pt = some w)
    (he : s.evict (setOf pt) w .released = none) : ownRelease pt.val s = (stTableBusy, s) := by
  simp only [ownRelease, pointOf_val, h, he]

theorem ownRelease_freed {pt : PointId} {w : Way} {t : State} (h : (s.points[setOf pt]).find pt = some w)
    (he : s.evict (setOf pt) w .released = some t) :
    ownRelease pt.val s = (stOk, t.tableChanged s (setOf pt)) := by
  simp only [ownRelease, pointOf_val, h, he]

variable {p : SetIx} {w : Way} {cause : CloseCause} {sl : Slot}

/-- A vacated way leaves its column without an owner when its slot owned it (R42). -/
theorem State.vacated_keepsOwner_iff (hsl : s.slotAt p w = some sl) : (s.vacated p w cause).KeepsOwner s p ↔
    ¬(w = .one ∧ sl.locked = true ∧ sl.use.fixed = true) := by
  cases w with
  | zero =>
    have kept : (s.vacated p .zero cause).KeepsOwner s p :=
      .inl (State.owner_of_slotAt (by rw [State.vacated_slotAt, if_neg (by simp)])).symm
    simp [kept]
  | one =>
    have after : ((s.vacated p .one cause).points[p]).owner = none := by
      have h1 : ((s.vacated p .one cause).points[p]).way1 = none :=
        (State.vacated_slotAt p .one).trans (if_pos ⟨rfl, rfl⟩)
      rw [PointSet.owner, h1]
    have h1 : (s.points[p]).way1 = some sl := hsl
    unfold State.KeepsOwner
    rw [after, or_self, Option.eq_none_iff_forall_ne_some]
    simp only [ne_eq, PointSet.owner_eq_some, h1, Option.some.injEq, exists_eq_left', true_and]
    exact ⟨fun h ⟨hl, hf⟩ => h _ ⟨hl, hf, rfl⟩, fun h _ ⟨hl, hf, _⟩ => h ⟨hl, hf⟩⟩

theorem State.vacated_exporter (hsl : s.slotAt p w = some sl) : (s.vacated p w cause).exporter =
    { s.exporter with list := s.exporter.list.map fun e =>
        if e.set = p ∧ e.way = w then { e with intact := false } else e } := by
  simp only [State.vacated, hsl, Option.isSome_some, true_and]

end

/-- Settles O55: RELEASE_POINT on a bad id, an absent point, a slot that cannot be closed, and one that can. -/
theorem releaseFreesTheSlot : Obligations.ReleaseFreesTheSlot := by
  intro s seq p0 p1 hopen release
  have refuses {b : List Byte} (h : ownRelease (le16 p0 p1) s.huntConsole = (b, s.huntConsole)) :
      release = .next (s.replied 0x11 seq b).transmit :=
    State.request_owned hopen .releasePoint seq rfl h
  have replies {b : List Byte} {t : State} (h : ownRelease (le16 p0 p1) s.huntConsole = (b, t))
      (hc : t.console = s.huntConsole.console) :
      release = .next (({ t with console := s.console } : State).replied 0x11 seq b).transmit :=
    State.request_worked hopen .releasePoint seq rfl ((ownerReply_releasePoint ..).trans h) hc
  refine ⟨fun h => refuses (ownRelease_badPoint h), fun pt hid => ?_⟩
  rw [hid] at refuses replies
  intro p
  refine ⟨fun h => refuses (ownRelease_unknown (s := s.huntConsole) h), fun w sl hfind hsl => ⟨fun hd hq hnone => ?_,
    fun hroom => ?_⟩⟩
  · exact refuses (ownRelease_busy hfind (State.evict_refused (s := s.huntConsole) hsl hd hq hnone))
  have room : ∀ x, s.slotAt p w = some x → x.dirty = false ∨ s.reports.queue.length < 48 ∨
      ∃ e ∈ s.reports.queue, e.notice.cls = .routine := fun x hx => by
    cases hsl.symm.trans hx
    exact hroom
  have said := ownRelease_freed (s := s.huntConsole) hfind (State.evict_eq room)
  have keeps := State.vacated_keepsOwner_iff (s := s.huntConsole) (cause := .released) hsl
  have hexp := State.vacated_exporter (s := s.huntConsole) (cause := .released) hsl
  have hreports := State.closedReports_some (s := s.huntConsole) (cause := .released) hsl
  obtain ⟨lost, kept, monitor⟩ := State.tableChanged_tells (s := s.huntConsole)
    (t := s.huntConsole.vacated p w .released) (p := p) rfl rfl rfl rfl
  obtain ⟨hcc, hce⟩ := State.columnCleared_congr (s := s) (t := s.huntConsole) p rfl rfl rfl
  rw [hcc, hce, keeps, not_not] at lost
  rw [keeps] at kept
  have hpoints := (s.huntConsole.vacated p w .released).tableChanged_points s.huntConsole p
  obtain ⟨c, e, b, htold⟩ := (s.huntConsole.vacated p w .released).tableChanged_frame s.huntConsole p
  change _ = (_, (s.huntConsole.vacated p w .released).tableChanged s.huntConsole p) at said
  generalize (s.huntConsole.vacated p w .released).tableChanged s.huntConsole p = t at *
  have hslot (q : SetIx) (v : Way) : t.slotAt q v = if q = p ∧ v = w then none else s.slotAt q v :=
    (State.slotAt_congr hpoints q v).trans (State.vacated_slotAt q v)
  refine ⟨_, replies said (by rw [htold]; rfl), ?_, ?_, ?_, fun q hq => ?_,
    ⟨fun h => ?_, fun h => ?_⟩, monitor, ?_, ?_⟩
  · exact (hslot p w).trans (if_pos ⟨rfl, rfl⟩)
  · exact (hslot p w.other).trans (if_neg fun h => Way.other_ne w h.2)
  · refine (congrArg (fun x : Vector PointSet 16 => (x[p]).lru) hpoints).trans ?_
    simp [State.vacated]
  · exact (congrArg (fun x : Vector PointSet 16 => x[q]) hpoints).trans (State.vacated_points_of_ne hq)
  · obtain ⟨hc, he⟩ := lost h
    dsimp only
    rw [hc]
    refine ⟨rfl, he, (s.columnCleared_freeze p p).trans (if_pos rfl),
      fun st => ⟨(s.columnCleared_couplingAt p p st).trans (if_pos rfl),
        (s.columnCleared_needAt p p st).trans (if_pos rfl)⟩,
      fun q hq => ⟨(s.columnCleared_freeze p q).trans (if_neg hq),
        fun st => ⟨(s.columnCleared_couplingAt p q st).trans (if_neg hq),
          (s.columnCleared_needAt p q st).trans (if_neg hq)⟩⟩,
      fun st => ⟨fun q => s.needAt_le_columnCleared_target p q st, s.exists_columnCleared_target p st⟩⟩
  · exact kept h
  · rw [htold]
    exact hreports
  · rw [htold]
    dsimp only
    rw [hexp]
    rfl

end Sys2Proof.Machine

/-! Seconds and minute closes (4.2, 4.3): the second ring, the open minute and the digest. -/

namespace Sys2Proof.Machine

/-! ### One second -/

/-- The record of a minute that closes in a slot (R62, R63). -/
def Slot.closingMinute (sl : Slot) (k : Nat) (cur : OpenMinute) : MinuteRecord :=
  let bare := cur.record (min (sl.minute + 1) Config.max32)
  { bare with long := closeLong sl.use k ((bare :: sl.win.minutes).take 15) }

/-- The reports after the count of an over-long close (R63). -/
def Bench.countedLong (b : Bench) (lim : LimitSet) (long : LongLevel) : Reports :=
  match b.slot.use.zone with
  | some z => if overLong lim long then b.reports.count (.overLong z) else b.reports
  | none => b.reports

section
variable (b : Bench) (dark : Bool) (lim : LimitSet) (e : Option Nat) {cur : OpenMinute}

theorem Bench.second_open (h : cur.elapsed < 59) : b.second dark lim e cur = { b with
    slot := { b.slot with
      win := { b.slot.win with
        ring := pushSecond b.slot.win.ring e, cur := { cur with elapsed := cur.elapsed + 1 } } } } :=
  if_neg (by omega)

/-- The slot after a close that offers no digest. -/
def Bench.closedSlot (b : Bench) (lim : LimitSet) (e : Option Nat) (cur : OpenMinute) : Slot :=
  { b.slot with
    minute := min (b.slot.minute + 1) Config.max32
    win := { b.slot.win with
      ring := pushSecond b.slot.win.ring e, cur := OpenMinute.empty
      minutes := (b.slot.closingMinute lim.k cur :: b.slot.win.minutes).take 15 } }

theorem Bench.second_closes (h : cur.elapsed = 59) : b.second dark lim e cur =
    if b.slot.digests dark then
      { slot := (b.closedSlot lim e cur).summarised
        reports := (b.countedLong lim (b.slot.closingMinute lim.k cur).long).offer
          (.minuteDigest b.slot.point b.slot.use (b.slot.closingMinute lim.k cur) b.slot.win.secs b.slot.win.worstL1
            b.slot.win.worstPeak) }
    else
      { slot := b.closedSlot lim e cur
        reports := b.countedLong lim (b.slot.closingMinute lim.k cur).long } :=
  if_pos (by omega)

theorem Bench.second_closes_slot (h : cur.elapsed = 59) : (b.second dark lim e cur).slot = { b.closedSlot lim e cur with
    dirty := if b.slot.digests dark then false else b.slot.dirty
    win := { (b.closedSlot lim e cur).win with
      secs := if b.slot.digests dark then 0 else b.slot.win.secs
      worstL1 := if b.slot.digests dark then none else b.slot.win.worstL1
      worstPeak := if b.slot.digests dark then none else b.slot.win.worstPeak } } := by
  rw [Bench.second_closes b dark lim e h]
  cases b.slot.digests dark <;> rfl

/-- Every second moves the ring by one slot. -/
theorem Bench.second_ring (cur : OpenMinute) :
    (b.second dark lim e cur).slot.win.ring = pushSecond b.slot.win.ring e := by
  unfold Bench.second Bench.closeMinute
  dsimp only
  split
  · split <;> rfl
  · rfl

end

theorem pushSecond_toList (ring : Vector (Option Nat) 60) (e : Option Nat) :
    (pushSecond ring e).toList = ring.toList.tail ++ [e] := rfl

theorem raise_eq (old : Option Nat) (v : Nat) : raise old v = some (match old with
    | some q => max q v
    | none => v) := by
  cases old <;> rfl

/-! ### The minute that closes -/

section
variable (sl : Slot) (k : Nat) (cur : OpenMinute)

theorem mean_map_recover (s n : Nat) : (mean s n).map recover = if n = 0 then none else some (recover (s / n)) := by
  unfold mean
  split <;> rfl

theorem longLevel_of_pos {k : Nat} (hk : 1 ≤ k) (ms : List MinuteRecord) : longLevel k ms =
    if ms.length < k ∨ countOf (ms.take k) < 45 * k then .insufficient
    else .code (recover (sumOf (ms.take k) / countOf (ms.take k))) := by
  unfold longLevel
  by_cases hlen : ms.length < k
  · rw [if_pos hlen, if_pos (.inl hlen)]
  · by_cases hcount : countOf (ms.take k) < 45 * k
    · rw [if_neg hlen, if_pos hcount, if_pos (.inr hcount)]
    · have hpos : countOf (ms.take k) ≠ 0 := by omega
      rw [if_neg hlen, if_neg hcount, if_neg (not_or.mpr ⟨hlen, hcount⟩), mean, if_neg hpos]

/-- The long level looks at the figures of the ring alone, which the closing minute has before its long level. -/
theorem Slot.closingMinute_long (hf : sl.use.fixed = true) :
    (sl.closingMinute k cur).long = longLevel k ((sl.closingMinute k cur :: sl.win.minutes).take 15) := by
  have figures : ∀ (a b : MinuteRecord) (ms : List MinuteRecord), a.count = b.count → a.sum = b.sum →
      longLevel k ((a :: ms).take 15) = longLevel k ((b :: ms).take 15) := by
    intro a b ms hc hs
    cases k with
    | zero => rfl
    | succ k => simp only [longLevel, countOf, sumOf, List.take_succ_cons, List.map_cons, List.sum_cons, hc, hs,
        List.length_cons]
  exact (if_pos hf).trans (figures _ _ _ rfl rfl)

theorem Slot.closingMinute_uncomputed (hf : sl.use.fixed = false) : (sl.closingMinute k cur).long = .notComputed :=
  if_neg (by simp [hf])

theorem Slot.closingMinute_eq : sl.closingMinute k cur =
    { number := min (sl.minute + 1) 4294967295, sum := cur.sum, count := cur.count
      leq := if cur.count = 0 then none else some (recover (cur.sum / cur.count))
      long := (sl.closingMinute k cur).long, peak := cur.peak, cal := cur.cal, clip := cur.clip
      thin := decide (cur.count < 45), overrun := cur.overrun } := by
  rw [← mean_map_recover]
  rfl

theorem Bench.countedLong_eq (b : Bench) (lim : LimitSet) (long : LongLevel) : b.countedLong lim long =
    match b.slot.use.zone, long with
    | some z, .code l => if lim.long < l then b.reports.count (.overLong z) else b.reports
    | _, _ => b.reports := by
  unfold Bench.countedLong
  cases b.slot.use.zone with
  | none => rfl
  | some z => cases long <;> simp [overLong]

end

/-! ### Empty seconds (R59, R65) -/

section
variable (b : Bench) (dark : Bool) (lim : LimitSet)

theorem Bench.emptySeconds_succ (n : Nat) : b.emptySeconds dark lim (n + 1) =
    (b.emptySeconds dark lim n).second dark lim none (b.emptySeconds dark lim n).slot.win.cur := by
  induction n generalizing b with
  | zero => rfl
  | succ n ih => exact ih (b.second dark lim none b.slot.win.cur)

/-- What a gap of n empty seconds has made of a slot, said in the minutes it closed. -/
structure Bench.Gapped (b : Bench) (n : Nat) (after : Bench) : Prop where
  number : after.slot.minute = b.slot.minute + (b.slot.win.cur.elapsed + n) / 60
  elapsed : after.slot.win.cur.elapsed = (b.slot.win.cur.elapsed + n) % 60
  opened : 60 ≤ b.slot.win.cur.elapsed + n → after.slot.win.cur.count = 0 ∧ after.slot.win.cur.sum = 0
  closed : ∀ m ∈ after.slot.win.minutes.take ((b.slot.win.cur.elapsed + n) / 60 - 1),
    m.count = 0 ∧ m.sum = 0 ∧ m.leq = none
  some_minutes : min 15 ((b.slot.win.cur.elapsed + n) / 60) ≤ after.slot.win.minutes.length
  most_minutes : 60 ≤ b.slot.win.cur.elapsed + n → after.slot.win.minutes.length ≤ 15
  ring : after.slot.win.ring.toList = (b.slot.win.ring.toList ++ List.replicate n none).drop n

variable {b dark lim}

theorem Bench.Gapped.zero (h : b.slot.win.cur.elapsed < 60) : b.Gapped 0 b where
  number := by omega
  elapsed := by omega
  opened := fun h' => by omega
  closed := by
    have hn : b.slot.win.cur.elapsed / 60 = 0 := by omega
    simp [hn]
  some_minutes := by
    have hn : b.slot.win.cur.elapsed / 60 = 0 := by omega
    simp [hn]
  most_minutes := fun h' => by omega
  ring := by simp

/-- One more none at the end of a shifted window of a list. -/
theorem drop_append_replicate_succ {α : Type} (l : List α) (x : α) {n : Nat} (h : 1 ≤ l.length) :
    ((l ++ List.replicate n x).drop n).tail ++ [x] = (l ++ List.replicate (n + 1) x).drop (n + 1) := by
  rw [List.tail_drop, List.replicate_succ', ← List.append_assoc]
  refine (List.drop_append_of_le_length ?_).symm
  rw [List.length_append, List.length_replicate]
  omega

/-- One more empty second of a gap. -/
theorem Bench.Gapped.succ {n : Nat} {c : Bench} (h : b.Gapped n c)
    (hmax : b.slot.minute + (b.slot.win.cur.elapsed + (n + 1)) / 60 ≤ Config.max32) :
    b.Gapped (n + 1) (c.second dark lim none c.slot.win.cur) := by
  have hring : (c.second dark lim none c.slot.win.cur).slot.win.ring.toList =
      (b.slot.win.ring.toList ++ List.replicate (n + 1) none).drop (n + 1) := by
    rw [Bench.second_ring, pushSecond_toList, h.ring]
    exact drop_append_replicate_succ _ _ (by simp)
  have hlt : c.slot.win.cur.elapsed < 60 := by
    rw [h.elapsed]
    omega
  have he := h.elapsed
  by_cases hopen : c.slot.win.cur.elapsed < 59
  · -- the open minute goes on
    rw [Bench.second_open c dark lim none hopen] at hring ⊢
    have hsame : (b.slot.win.cur.elapsed + (n + 1)) / 60 = (b.slot.win.cur.elapsed + n) / 60 := by omega
    exact {
      number := by rw [hsame]; exact h.number
      elapsed := by dsimp only; omega
      opened := fun h' => h.opened (by omega)
      closed := by rw [hsame]; exact h.closed
      some_minutes := by rw [hsame]; exact h.some_minutes
      most_minutes := fun h' => h.most_minutes (by omega)
      ring := hring }
  · -- the minute closes, and opens the next
    have hclose : c.slot.win.cur.elapsed = 59 := by omega
    have hnext : (b.slot.win.cur.elapsed + (n + 1)) / 60 = (b.slot.win.cur.elapsed + n) / 60 + 1 := by omega
    have hslot := Bench.second_closes_slot c dark lim none hclose
    have hminutes : (c.second dark lim none c.slot.win.cur).slot.win.minutes =
        (c.slot.closingMinute lim.k c.slot.win.cur :: c.slot.win.minutes).take 15 := by
      rw [hslot]
      rfl
    have hcur : (c.second dark lim none c.slot.win.cur).slot.win.cur = OpenMinute.empty := by
      rw [hslot]
      rfl
    exact {
      number := by
        rw [hslot]
        have hn := h.number
        simp only [Bench.closedSlot]
        omega
      elapsed := by rw [hcur]; simp only [OpenMinute.empty]; omega
      opened := fun _ => by rw [hcur]; exact ⟨rfl, rfl⟩
      closed := fun m hm => by
        rw [hminutes, hnext, List.take_take, Nat.add_sub_cancel] at hm
        cases hq : (b.slot.win.cur.elapsed + n) / 60 with
        | zero => simp [hq] at hm
        | succ q =>
          rw [hq] at hm
          have hsub : m ∈ (c.slot.closingMinute lim.k c.slot.win.cur :: c.slot.win.minutes).take (q + 1) :=
            (List.take_subset_take_left _ (min_le_left _ _)) hm
          rw [List.take_succ_cons] at hsub
          rcases List.mem_cons.mp hsub with rfl | hold
          · obtain ⟨hcount, hsum⟩ := h.opened (by omega)
            exact ⟨hcount, hsum, by rw [Slot.closingMinute_eq]; exact if_pos hcount⟩
          · exact h.closed m (by rw [hq]; exact hold)
      some_minutes := by
        have hsome := h.some_minutes
        rw [hminutes, hnext, List.length_take, List.length_cons]
        omega
      most_minutes := fun _ => by rw [hminutes, List.length_take]; exact min_le_left _ _
      ring := hring }

theorem Bench.emptySeconds_gapped (he : b.slot.win.cur.elapsed < 60) {n : Nat}
    (hmax : b.slot.minute + (b.slot.win.cur.elapsed + n) / 60 ≤ Config.max32) :
    b.Gapped n (b.emptySeconds dark lim n) := by
  induction n with
  | zero => exact .zero he
  | succ n ih =>
    rw [Bench.emptySeconds_succ]
    exact (ih (by omega)).succ hmax

end

/-- Settles O19: seconds, closes, places and gaps. -/
theorem secondsAdvanceAndMinutesClose : Obligations.SecondsAdvanceAndMinutesClose := by
  refine ⟨fun b dark lim e cur h => ?_, fun b dark lim e cur => ?_, fun b dark lim e cur h => ?_, fun b dark lim r => ?_,
    fun b dark lim n => ⟨rfl, rfl⟩, fun b dark lim he hmax => ?_⟩
  · rw [Bench.second_open b dark lim e h]
  · rw [Bench.second_ring, pushSecond_toList]
  · intro c sl digests
    refine ⟨sl.closingMinute lim.k cur, sl.closingMinute_eq lim.k cur, sl.closingMinute_uncomputed lim.k cur,
      fun hf hk => (sl.closingMinute_long lim.k cur hf).trans (longLevel_of_pos hk _), ?_, ?_⟩
    · have hring : c.slot.win.ring = pushSecond b.slot.win.ring e := Bench.second_ring b dark lim e cur
      rw [hring]
      exact Bench.second_closes_slot b dark lim e h
    · intro counted
      have hcounted : b.countedLong lim (sl.closingMinute lim.k cur).long = counted := b.countedLong_eq lim _
      rw [← hcounted]
      refine (congrArg Bench.reports (Bench.second_closes b dark lim e h)).trans ?_
      exact apply_ite Bench.reports _ _ _
  · intro cur
    refine ⟨fun h => ?_, fun h => ?_⟩
    · simp only [Bench.place, OpenMinute.take, h, if_true]
      rfl
    · have hclip : (if r.clip || r.overMark then cur.clip + 1 else cur.clip) =
          if r.clip = true ∨ r.overMark = true then cur.clip + 1 else cur.clip :=
        if_congr Bool.or_eq_true_iff rfl rfl
      rw [← hclip]
      simp only [Bench.place, OpenMinute.take, h, Bool.false_eq_true, if_false, raise_eq]
      rfl
  · intro after
    have gap : b.Gapped 960 after := Bench.emptySeconds_gapped he (by omega)
    have hclosed : (b.slot.win.cur.elapsed + 960) / 60 = 16 := by omega
    have hlen : after.slot.win.minutes.length = 15 := by
      have hsome := gap.some_minutes
      have hmost := gap.most_minutes (by omega)
      omega
    refine ⟨by rw [gap.number, hclosed], by rw [gap.elapsed]; omega, (gap.opened (by omega)).1, hlen, fun m hm => ?_,
      fun x hx => ?_⟩
    · refine gap.closed m ?_
      rwa [hclosed, List.take_of_length_le (by omega)]
    · rw [gap.ring, List.drop_append, List.drop_eq_nil_of_le (by simp), List.nil_append] at hx
      exact List.eq_of_mem_replicate (List.mem_of_mem_drop hx)

end Sys2Proof.Machine

/-! The work of a reading's role (4.2, 4.4 to 4.6): scoring, the exceedance state, the evaluation and a stage's
reading. -/

namespace Sys2Proof.Machine

/-! ### The figures of a scored reading (R69) -/

theorem overShort_eq (lim : LimitSet) (l1 : Option Nat) : overShort lim l1 = match l1 with
    | some l => decide (lim.short < l)
    | none => false := by
  cases l1 <;> rfl

theorem Slot.scored_eq (sl : Slot) (lim : LimitSet) (r : Reading) : sl.scored lim r = { sl with
    dirty := sl.dirty || overShort lim sl.win.l1
    win := { sl.win with
      secs := if overShort lim sl.win.l1 then min (sl.win.secs + 1) 65535 else sl.win.secs
      worstL1 := match sl.win.l1 with
        | some l => some (match sl.win.worstL1 with
          | some x => max x l
          | none => l)
        | none => sl.win.worstL1
      worstPeak := some (match sl.win.worstPeak with
        | some x => max x r.peak
        | none => r.peak) } } := by
  have hl1 : (match sl.win.l1 with
      | some l => raise sl.win.worstL1 l
      | none => sl.win.worstL1) = match sl.win.l1 with
      | some l => some (match sl.win.worstL1 with
        | some x => max x l
        | none => l)
      | none => sl.win.worstL1 := by
    cases sl.win.l1 with
    | none => rfl
    | some l => exact raise_eq _ _
  have hpeak : raise sl.win.worstPeak r.peak = some (match sl.win.worstPeak with
      | some x => max x r.peak
      | none => r.peak) := raise_eq _ _
  rw [← hl1, ← hpeak]
  rfl

theorem Reports.countScore_eq (rep : Reports) (z : Zone) (lim : LimitSet) (sl : Slot) (r : Reading) :
    rep.countScore z lim sl r =
      if lim.ceiling < r.peak then
        (if overShort lim sl.win.l1 then rep.count (.overShort z) else rep).count (.peaks z)
      else if overShort lim sl.win.l1 then rep.count (.overShort z) else rep :=
  if_congr decide_eq_true_iff rfl rfl

theorem Schedule.score_none {x : Schedule} {z : Zone} (h : x.zoneHolder[z] = none) (hit : Bool) (v : Option Int) :
    x.score z hit v = x := by
  simp only [Schedule.score, h]

theorem Schedule.score_some {x : Schedule} {z : Zone} {i : SlotIx} (h : x.zoneHolder[z] = some i) (hit : Bool)
    (v : Option Int) : x.score z hit v = { x with periods := x.periods.set i { x.period i with
      exceed := if hit then min ((x.period i).exceed + 1) 65535 else (x.period i).exceed
      worst := match v, (x.period i).worst with
        | some v, some u => some (min u v)
        | some v, none => some v
        | none, u => u } } := by
  simp only [Schedule.score, h, Schedule.setPeriod]
  cases v with
  | none => rfl
  | some v =>
    cases (x.period i).worst with
    | none => rfl
    | some u => simp only [min_comm v u]

/-! ### A slot in the table -/

theorem State.putSlot_putSlot (s : State) (p : SetIx) (w : Way) (x y : Option Slot) :
    (s.putSlot p w x).putSlot p w y = s.putSlot p w y := by
  simp [State.putSlot]

section
variable {s : State} {p : SetIx} {w : Way} {sl : Slot}

theorem State.score_eq (h : s.slotAt p w = some sl) (z : Zone) (lim : LimitSet) (r : Reading) :
    s.score p w z lim r = State.putSlot { s with
      reports := s.reports.countScore z lim sl r
      sched := s.sched.score z (overShort lim sl.win.l1) (headroom lim sl.win.l1 sl.win.pk) } p w
        (some (sl.scored lim r)) := by
  simp only [State.score, h]

theorem State.stepExceed_eq (h : s.slotAt p w = some sl) (f : Slot → Slot × List Notice) :
    s.stepExceed p w f =
      State.putSlot { s with reports := (f sl).2.foldl Reports.offer s.reports } p w (some (f sl).1) := by
  simp only [State.stepExceed, h]
  rfl

theorem State.stepExceed_putSlot (s : State) (p : SetIx) (w : Way) (sl : Slot) (f : Slot → Slot × List Notice) :
    (s.putSlot p w (some sl)).stepExceed p w f =
      State.putSlot { s with reports := (f sl).2.foldl Reports.offer s.reports } p w (some (f sl).1) := by
  rw [State.stepExceed_eq (State.slotAt_putSlot_self s p w (some sl))]
  exact State.putSlot_putSlot { s with reports := (f sl).2.foldl Reports.offer s.reports } p w (some sl) _

end

/-! ### The end of an exceedance (R70) -/

/-- A slot whose exceedance has ended. -/
def Slot.endExceeding (sl : Slot) : Slot :=
  if sl.win.exceeding then { sl with win := { sl.win with exceeding := false, clear := 0 } } else sl

/-- The notice of an exceedance that ends. -/
def Slot.endNotices (sl : Slot) : List Notice :=
  if sl.win.exceeding then [.exceedClear sl.point sl.use] else []

theorem Slot.exceedEnd_eq (sl : Slot) : sl.exceedEnd = (sl.endExceeding, sl.endNotices) := by
  unfold Slot.exceedEnd Slot.endExceeding Slot.endNotices
  split <;> rfl

theorem Slot.endExceeding_l1 (sl : Slot) : sl.endExceeding.win.l1 = sl.win.l1 := by
  unfold Slot.endExceeding
  split <;> rfl

theorem Slot.endNotices_scored (sl : Slot) (lim : LimitSet) (r : Reading) :
    (sl.scored lim r).endNotices = sl.endNotices := rfl

/-! ### The work of each role -/

section
variable {m : State} {p : SetIx} {w : Way} {sl : Slot} (h : m.slotAt p w = some sl) (lim : LimitSet) {r : Reading}
include h

theorem State.exceedEnd_eq : m.stepExceed p w Slot.exceedEnd =
    State.putSlot { m with reports := sl.endNotices.foldl Reports.offer m.reports } p w (some sl.endExceeding) := by
  rw [State.stepExceed_eq h, Slot.exceedEnd_eq]

theorem State.roleWork_roaming_cal (z : Zone) (hr : r.cal = true) : m.roleWork p w (.roaming z) lim r =
    State.putSlot { m with reports := sl.endNotices.foldl Reports.offer m.reports } p w (some sl.endExceeding) := by
  rw [← State.exceedEnd_eq h]
  simp only [State.roleWork, hr, if_true]

theorem State.roleWork_roaming (z : Zone) (hr : r.cal = false) : m.roleWork p w (.roaming z) lim r =
    State.putSlot { m with
      sched := m.sched.score z (overShort lim sl.win.l1) (headroom lim sl.win.l1 sl.win.pk)
      reports := sl.endNotices.foldl Reports.offer (m.reports.countScore z lim sl r) } p w
        (some (sl.scored lim r).endExceeding) := by
  simp only [State.roleWork, hr, Bool.false_eq_true, if_false]
  rw [State.score_eq h, State.stepExceed_putSlot, Slot.exceedEnd_eq, Slot.endNotices_scored]

/-- A fixed reading after its exceedance step, before the evaluation. -/
def State.steppedFixed (m : State) (p : SetIx) (w : Way) (sl : Slot) (lim : LimitSet) (z : Zone) (r : Reading) : State :=
  let stepped := (sl.scored lim r).exceedStep (excess lim sl.win.l1 sl.win.pk r.peak)
    (dominantKind lim sl.win.l1 sl.win.pk r.peak)
  State.putSlot { m with
    sched := m.sched.score z (overShort lim sl.win.l1) (headroom lim sl.win.l1 sl.win.pk)
    reports := stepped.2.foldl Reports.offer (m.reports.countScore z lim sl r) } p w (some stepped.1)

theorem State.workFixed_eq (z : Zone) : m.workFixed p w z lim r =
    let x := excess lim sl.win.l1 sl.win.pk r.peak
    let v := (m.steppedFixed p w sl lim z r).evaluate p (decide (w = .one) && sl.locked) lim.margin x
      (headroom lim sl.win.l1 sl.win.pk)
    if 0 < x then v.excessTold p else v := by
  simp only [State.workFixed, h]
  rw [State.score_eq h, State.stepExceed_putSlot]
  rfl

/-- The state after a STAGE reading has handed its L1 to the monitor. -/
def State.heardStage (m : State) (p : SetIx) (w : Way) (sl : Slot) (st : Stage) : State :=
  State.stageL1
    (State.putSlot { m with reports := sl.endNotices.foldl Reports.offer m.reports } p w (some sl.endExceeding)) st
    sl.win.l1

theorem State.heardStage_eq (st : Stage) : (m.stepExceed p w Slot.exceedEnd).stageL1 st
    (((m.stepExceed p w Slot.exceedEnd).slotAt p w).bind (·.win.l1)) = m.heardStage p w sl st := by
  rw [State.exceedEnd_eq h, State.slotAt_putSlot_self, Option.bind_some, Slot.endExceeding_l1]
  rfl

theorem State.workStage_silent (st : Stage) (hr : r.echo = none) : m.workStage p w st r = m.heardStage p w sl st := by
  simp only [State.workStage, hr, State.heardStage_eq h]

theorem State.workStage_echo (st : Stage) {x : Echo} (hr : r.echo = some x) : m.workStage p w st r =
    (m.heardStage p w sl st).withEngine st
      (((m.heardStage p w sl st).engine st).echo (m.heardStage p w sl st).now st x) := by
  simp only [State.workStage, hr, State.heardStage_eq h]

end

/-- Settles O60: the work of a reading by role. -/
theorem readingIsScoredAndEvaluatedByRole : Obligations.ReadingIsScoredAndEvaluatedByRole := by
  refine ⟨fun s z => ⟨rfl, rfl, rfl, fun i h => ?_, fun h => ?_⟩, ?_⟩
  · simp only [Schedule.zoneLimits, h, Period.limits]
  · simp only [Schedule.zoneLimits, h, Fallback.limits]
  intro m p w sl lim r hsl loud most h x scored counted sched ended clears
  have hloud : overShort lim sl.win.l1 = loud := overShort_eq _ _
  have hscored : sl.scored lim r = scored := by
    have figures := sl.scored_eq lim r
    rw [hloud] at figures
    exact figures
  have hcounted (z : Zone) : m.reports.countScore z lim sl r = counted z := by
    rw [Reports.countScore_eq, hloud]
  have hsched (z : Zone) : m.sched.score z loud h = sched z := by
    simp only [sched]
    cases hz : m.sched.zoneHolder[z] with
    | none => exact Schedule.score_none hz _ _
    | some i => exact Schedule.score_some hz _ _
  have hended (q : Slot) : q.endExceeding = ended q := rfl
  have hclears : sl.endNotices = clears := rfl
  refine ⟨fun z hr => ⟨if_pos hr, if_pos hr, ?_⟩, fun z hr => ⟨?_, fun use huse => ?_⟩, fun st => ?_⟩
  · exact State.roleWork_roaming_cal hsl lim z hr
  · refine (State.roleWork_roaming hsl lim z hr).trans ?_
    rw [hloud, hscored, hcounted z, show headroom lim sl.win.l1 sl.win.pk = h from rfl, hsched z, hended, hclears]
  · intro stepped e v
    have hwork : m.roleWork p w use lim r = m.workFixed p w z lim r := by
      rcases huse with rfl | rfl <;> exact if_neg (by simp [hr])
    have hstepped : m.steppedFixed p w sl lim z r = e := by
      rw [State.steppedFixed, hloud, hscored, hcounted z, show headroom lim sl.win.l1 sl.win.pk = h from rfl, hsched z]
    have hv := State.workFixed_eq hsl lim (r := r) z
    rw [hstepped] at hv
    rw [hwork]
    exact ⟨fun hx => hv.trans (if_neg (by rw [show excess lim sl.win.l1 sl.win.pk r.peak = 0 from hx]; decide)),
      fun hx => hv.trans (if_pos hx)⟩
  · intro d
    exact ⟨fun hr => State.workStage_silent hsl st hr, fun y hr => State.workStage_echo hsl st hr⟩

end Sys2Proof.Machine

/-! An accepted reading (4.2, 4.4, 4.7): its seconds, the marks of its slot, and who hears of a stale slot that turns
fresh. -/

namespace Sys2Proof.Machine

/-! ### What the declarations of the table decide -/

/-- Every way holds the same declaration, or none, in both states. -/
def State.SameDeclared (s t : State) : Prop :=
  ∀ p w, (t.slotAt p w).map Slot.declared = (s.slotAt p w).map Slot.declared

section
variable {s t : State}

theorem TableKept.sameDeclared (h : TableKept s t) : s.SameDeclared t := h.declared

theorem State.SameDeclared.owner_eq (h : s.SameDeclared t) (p : SetIx) : (t.points[p]).owner = (s.points[p]).owner :=
  PointSet.owner_congr (h p .one)

theorem State.SameDeclared.hasMeter_eq (h : s.SameDeclared t) : t.hasMeter = s.hasMeter :=
  funext <| hasMeter_of_uses fun p w => by
    have hu := congrArg (Option.map fun d : PointId × Use × Bool => d.2.1) (h p w)
    rwa [Option.map_map, Option.map_map] at hu

/-- The monitor's judgement looks at its own record, the time and the meters. -/
theorem State.timerOn_congr (hb : t.standby = s.standby) (hn : t.now = s.now) (hm : t.hasMeter = s.hasMeter)
    (quiet : Vector Bool 4) : t.timerOn quiet = s.timerOn quiet := by
  have hdark : t.darkWith quiet = s.darkWith quiet := by
    rw [State.darkWith, State.darkWith, hb, hm]
  rw [State.timerOn, State.timerOn, hdark, hb, hn]

theorem State.stageFresh_standby_congr (hb : t.standby = s.standby) (hn : t.now = s.now)
    (hm : t.hasMeter = s.hasMeter) (st : Stage) : (t.stageFresh st).standby = (s.stageFresh st).standby := by
  have hq : t.lastQuiet st = s.lastQuiet st := by
    simp only [State.lastQuiet, hb]
  cases hd : s.standby.dark with
  | true => rw [State.stageFresh_dark st (hb ▸ hd), State.stageFresh_dark st hd, hq, hb]
  | false =>
    rw [State.stageFresh_light st (hb ▸ hd), State.stageFresh_light st hd, hq, State.timerOn_congr hb hn hm, hb]

end

/-! ### A slot that turns fresh (R67, R115) -/

section
variable (s : State) (p : SetIx) (sl : Slot) (r : Reading)

/-- The control block after it has heard that a point is fresh. -/
def State.freshControl : Control :=
  if sl.use.fixed = true ∧ (s.points[p]).owner = some sl.point then
    { s.control with freeze := s.control.freeze.set p .active }
  else s.control

/-- The monitor after it has heard that a point is fresh. -/
def State.freshStandby : Standby :=
  match sl.use with
  | .stage st => (s.stageFresh st).standby
  | .boundary _ => s.standby
  | .foh _ => s.standby
  | .roaming _ => s.standby

theorem State.tellFresh_eq : s.tellFresh p sl =
    { s with control := s.freshControl p sl, standby := s.freshStandby sl } := by
  have thawed {u : Use} (hu : u.fixed = true) :
      (if (s.points[p]).owner = some sl.point then s.thawSet p else s) = { s with
        control := if u.fixed = true ∧ (s.points[p]).owner = some sl.point then
            { s.control with freeze := s.control.freeze.set p .active }
          else s.control } := by
    by_cases h : (s.points[p]).owner = some sl.point
    · rw [if_pos h, if_pos ⟨hu, h⟩]
      rfl
    · rw [if_neg h, if_neg fun h' => h h'.2]
  unfold State.tellFresh State.freshControl State.freshStandby
  cases sl.use with
  | boundary z => exact thawed rfl
  | foh z => exact thawed rfl
  | stage st =>
    obtain ⟨b, hb⟩ := s.stageFresh_frame st
    dsimp only
    rw [hb, if_neg fun h => nomatch h.1]
  | roaming z =>
    dsimp only
    rw [if_neg fun h => nomatch h.1]

/-- The notices of a reading that marks its slot (R67). -/
def Slot.freshNotices : List Notice :=
  (if sl.win.stale then [.pointFresh sl.point sl.use r.stamp] else []) ++
    (if r.batt = true ∧ sl.win.battery = false then [.batteryLow sl.point sl.use] else [])

/-- The control block after stage 6. -/
def State.refreshedControl : Control := if sl.win.stale then s.freshControl p sl else s.control

/-- The monitor after stage 6. -/
def State.refreshedStandby : Standby := if sl.win.stale then s.freshStandby sl else s.standby

end

section
variable {s t : State} {p : SetIx} {w : Way} {sl x : Slot} {r : Reading}

/-- What a fresh slot tells depends on declarations alone. -/
theorem State.freshControl_congr (hd : s.SameDeclared t) (hc : t.control = s.control) (hx : x.declared = sl.declared) :
    t.freshControl p x = s.freshControl p sl := by
  obtain ⟨hp, hu, _⟩ := Slot.declared_eq_iff.mp hx
  simp only [State.freshControl, hd.owner_eq p, hc, hp, hu]

theorem State.freshStandby_congr (hd : s.SameDeclared t) (hb : t.standby = s.standby) (hn : t.now = s.now)
    (hx : x.declared = sl.declared) : t.freshStandby x = s.freshStandby sl := by
  obtain ⟨_, hu, _⟩ := Slot.declared_eq_iff.mp hx
  unfold State.freshStandby
  rw [hu, hb]
  cases sl.use with
  | stage st => exact State.stageFresh_standby_congr hb hn hd.hasMeter_eq st
  | _ z => rfl

/-- Stage 6, whole (R67). -/
theorem State.refreshSlot_eq (h : s.slotAt p w = some sl) : s.refreshSlot p w r = { s with
    points := (s.refreshSlot p w r).points
    reports := (sl.freshNotices r).foldl Reports.offer s.reports
    control := s.refreshedControl p sl, standby := s.refreshedStandby sl } := by
  have declared : s.SameDeclared ((s.putSlot p w (some (sl.marked r))).touch p w) := by
    intro q v
    rw [State.slotAt_touch, State.slotAt_putSlot]
    split
    · next hq =>
      obtain ⟨rfl, rfl⟩ := hq
      rw [h]
      rfl
    · rfl
  have told : (((s.putSlot p w (some (sl.marked r))).touch p w).offer (.pointFresh sl.point sl.use r.stamp)).tellFresh p
        (sl.marked r) = { (s.putSlot p w (some (sl.marked r))).touch p w with
      reports := s.reports.offer (.pointFresh sl.point sl.use r.stamp)
      control := s.freshControl p sl, standby := s.freshStandby sl } := by
    rw [State.tellFresh_eq]
    have hc := State.freshControl_congr (s := s) (p := p) (sl := sl) (x := sl.marked r) (t :=
      ((s.putSlot p w (some (sl.marked r))).touch p w).offer (.pointFresh sl.point sl.use r.stamp)) declared rfl rfl
    have hb := State.freshStandby_congr (s := s) (sl := sl) (x := sl.marked r) (t :=
      ((s.putSlot p w (some (sl.marked r))).touch p w).offer (.pointFresh sl.point sl.use r.stamp)) declared rfl rfl rfl
    rw [hc, hb]
    rfl
  have hall : s.refreshSlot p w r =
      let s2 := if sl.win.stale then
          (((s.putSlot p w (some (sl.marked r))).touch p w).offer (.pointFresh sl.point sl.use r.stamp)).tellFresh p
            (sl.marked r)
        else (s.putSlot p w (some (sl.marked r))).touch p w
      if r.batt && !sl.win.battery then s2.offer (.batteryLow sl.point sl.use) else s2 := by
    simp only [State.refreshSlot, h]
    rfl
  rw [hall, told]
  unfold Slot.freshNotices State.refreshedControl State.refreshedStandby
  cases sl.win.stale <;> cases sl.win.battery <;> cases r.batt <;> rfl

end

/-! ### The figures of a slot (R9, R12, R13) -/

theorem shortLevel_eq (ring : Vector (Option Nat) 60) : shortLevel ring =
    if (ring.toList.filterMap id).length < 30 then none
    else some (recover ((ring.toList.filterMap id).sum / (ring.toList.filterMap id).length)) := by
  unfold shortLevel filled
  by_cases h : (ring.toList.filterMap id).length < 30
  · rw [if_pos h, if_pos h]
  · rw [if_neg h, mean_map_recover, if_neg (by omega), if_neg h]

theorem extrapolating_eq (l1 : Option Nat) (cur : OpenMinute) : extrapolating l1 cur = match l1 with
    | some l => some (energy l)
    | none => if cur.count = 0 then none else some (cur.sum / cur.count) := by
  cases l1 <;> rfl

theorem projection_eq {cur : OpenMinute} (h : cur.elapsed < 60) (k : Nat) (minutes : List MinuteRecord)
    (l1 : Option Nat) : projection k minutes cur l1 = (extrapolating l1 cur).map fun e =>
      recover ((((minutes.take (k - 1)).map (·.sum)).sum + cur.sum + e * (60 - cur.elapsed)) /
        (((minutes.take (k - 1)).map (·.count)).sum + cur.count + (60 - cur.elapsed))) := by
  unfold projection
  cases extrapolating l1 cur with
  | none => rfl
  | some e =>
    dsimp only
    rw [mean_map_recover]
    exact if_neg (by omega)

/-- A placed second leaves an open minute of fewer than 60 seconds. -/
theorem Bench.second_elapsed (b : Bench) (dark : Bool) (lim : LimitSet) (e : Option Nat) (cur : OpenMinute) :
    (b.second dark lim e cur).slot.win.cur.elapsed < 60 := by
  unfold Bench.second
  dsimp only
  split
  · unfold Bench.closeMinute
    dsimp only
    split <;> exact (by decide : OpenMinute.empty.elapsed < 60)
  · next h =>
    dsimp only
    omega

/-! ### Stages 4 to 7, whole (R66) -/

/-- The slot and the reports after the gap's empty seconds and the reading's own. -/
def State.advanced (s : State) (sl : Slot) (n : Nat) (r : Reading) : Bench :=
  (Bench.emptySeconds { slot := sl, reports := s.reports } s.standby.dark (s.limitsFor sl.use) n).place
    s.standby.dark (s.limitsFor sl.use) r

/-- The state between stage 7 and the role's work. -/
def State.measured (s : State) (p : SetIx) (w : Way) (sl : Slot) (n : Nat) (r : Reading) : State :=
  ((s.advanceTo p w sl (s.limitsFor sl.use) n r).refreshSlot p w r).storeFigures p w (s.limitsFor sl.use)

theorem State.advanced_keeps (s : State) (sl : Slot) (n : Nat) (r : Reading) :
    (s.advanced sl n r).slot.declared = sl.declared ∧ (s.advanced sl n r).slot.win.stale = sl.win.stale ∧
      (s.advanced sl n r).slot.win.battery = sl.win.battery := by
  obtain ⟨hp, hu, hl, _, _, hs, hb⟩ := Bench.second_keeps _ _ _ _ _
  obtain ⟨gp, gu, gl, _, gs, gb⟩ := Bench.emptySeconds_keeps { slot := sl, reports := s.reports } s.standby.dark
    (s.limitsFor sl.use) n
  exact ⟨Slot.declared_eq_iff.mpr ⟨hp.trans gp, hu.trans gu, hl.trans gl⟩, hs.trans gs, hb.trans gb⟩

section
variable {s : State} {p : SetIx} {w : Way} {sl : Slot} {n : Nat} {r : Reading}

theorem State.windowWork_accepted (h : s.slotAt p w = some sl) (hc : classify sl.win.lastStamp r.stamp = .accepted n) :
    s.windowWork p w r = (s.measured p w sl n r).roleWork p w sl.use (s.limitsFor sl.use) r := by
  simp only [State.windowWork, h, hc]
  rfl

theorem State.advanceTo_slotAt_self :
    (s.advanceTo p w sl (s.limitsFor sl.use) n r).slotAt p w = some (s.advanced sl n r).slot :=
  (State.advanceTo_slotAt ..).trans (if_pos ⟨rfl, rfl⟩)

theorem State.measured_slotAt_self : (s.measured p w sl n r).slotAt p w =
    some (((s.advanced sl n r).slot.marked r).figures (s.limitsFor sl.use)) := by
  rw [State.measured, State.storeFigures_slotAt, if_pos ⟨rfl, rfl⟩, State.refreshSlot_slotAt, if_pos ⟨rfl, rfl⟩,
    State.advanceTo_slotAt_self]
  rfl

theorem State.measured_slotAt_of_ne {q : SetIx} {v : Way} (h : ¬(q = p ∧ v = w)) :
    (s.measured p w sl n r).slotAt q v = s.slotAt q v := by
  rw [State.measured, State.storeFigures_slotAt, if_neg h, State.refreshSlot_slotAt, if_neg h, State.advanceTo_slotAt,
    if_neg h]

theorem State.measured_lru : ((s.measured p w sl n r).points[p]).lru = w.other :=
  (State.lru_putSlot ..).trans (State.refreshSlot_lru _ p w r State.advanceTo_slotAt_self)

theorem State.measured_points_of_ne {q : SetIx} (h : q ≠ p) : (s.measured p w sl n r).points[q] = s.points[q] := by
  have marked := State.refreshSlot_points (s.advanceTo p w sl (s.limitsFor sl.use) n r) p w r
  rw [State.advanceTo_slotAt_self] at marked
  refine (State.points_putSlot_of_ne _ w _ h).trans ?_
  refine (congrArg (fun x : Vector PointSet 16 => x[q]) marked).trans ?_
  refine (State.points_touch_of_ne _ w h).trans ((State.points_putSlot_of_ne _ w _ h).trans ?_)
  exact State.points_putSlot_of_ne _ w _ h

theorem State.measured_frame (h : s.slotAt p w = some sl) : s.measured p w sl n r = { s with
    points := (s.measured p w sl n r).points
    reports := (sl.freshNotices r).foldl Reports.offer (s.advanced sl n r).reports
    control := s.refreshedControl p sl, standby := s.refreshedStandby sl } := by
  obtain ⟨hd, hs, hb⟩ := s.advanced_keeps sl n r
  have declared : s.SameDeclared (s.advanceTo p w sl (s.limitsFor sl.use) n r) :=
    (State.advanceTo_kept h (s.limitsFor sl.use) n r).declared
  have refreshed := State.refreshSlot_eq (s := s.advanceTo p w sl (s.limitsFor sl.use) n r) (r := r)
    (State.advanceTo_slotAt_self (s := s) (p := p) (w := w) (sl := sl) (n := n) (r := r))
  obtain ⟨hp, hu, _⟩ := Slot.declared_eq_iff.mp hd
  have hnotices : (s.advanced sl n r).slot.freshNotices r = sl.freshNotices r := by
    simp only [Slot.freshNotices, hp, hu, hs, hb]
  have hcontrol : (s.advanceTo p w sl (s.limitsFor sl.use) n r).refreshedControl p (s.advanced sl n r).slot =
      s.refreshedControl p sl := by
    simp only [State.refreshedControl, hs, State.freshControl_congr (s := s) (sl := sl) declared rfl hd]
    rfl
  have hstandby : (s.advanceTo p w sl (s.limitsFor sl.use) n r).refreshedStandby (s.advanced sl n r).slot =
      s.refreshedStandby sl := by
    simp only [State.refreshedStandby, hs, State.freshStandby_congr (s := s) (sl := sl) declared rfl rfl hd]
    rfl
  rw [hnotices, hcontrol, hstandby] at refreshed
  unfold State.measured
  rw [refreshed]
  rfl

end

end Sys2Proof.Machine

/-! Readings of present and of absent points (3.4, 3.5, 4.2 to 4.4). -/

namespace Sys2Proof.Machine

/-! ### Accepted stamps (R57, R65) -/

/-- The empty seconds of an accepted reading's gap. -/
def gapSeconds (o : Option Word16) (x : Word16) : Nat :=
  match o with
  | some last => min 960 ((x - last).toNat - 1)
  | none => 0

theorem classify_accepted {o : Option Word16} {x : Word16}
    (h : ∀ last, o = some last → 1 ≤ (x - last).toNat ∧ (x - last).toNat ≤ 32768) :
    classify o x = .accepted (gapSeconds o x) := by
  cases o with
  | none => rfl
  | some last =>
    obtain ⟨hlow, hhigh⟩ := h last rfl
    have h0 : ¬(x - last).toNat = 0 := by omega
    by_cases hg : (x - last).toNat ≤ 960
    · have hmin : min 960 ((x - last).toNat - 1) = (x - last).toNat - 1 := by omega
      simp only [classify, gapSeconds, h0, hg, if_false, if_true, hmin]
    · have hmin : min 960 ((x - last).toNat - 1) = 960 := by omega
      simp only [classify, gapSeconds, h0, hg, hhigh, if_false, if_true, hmin]

theorem State.refreshedControl_eq (s : State) (p : SetIx) (sl : Slot) : s.refreshedControl p sl =
    if sl.win.stale = true ∧ sl.use.fixed = true ∧ (s.points[p]).owner = some sl.point then
      { s.control with freeze := s.control.freeze.set p .active }
    else s.control := by
  unfold State.refreshedControl State.freshControl
  by_cases h : sl.win.stale = true
  · rw [if_pos h]
    exact if_congr (and_iff_right h).symm rfl rfl
  · rw [if_neg h, if_neg fun h' => h h'.1]

theorem State.refreshedStandby_eq (s : State) (sl : Slot) : s.refreshedStandby sl =
    match sl.use with
    | .stage st => if sl.win.stale then (s.stageFresh st).standby else s.standby
    | _ => s.standby := by
  unfold State.refreshedStandby State.freshStandby
  cases sl.use with
  | stage st => rfl
  | _ z => exact ite_self _

theorem Slot.marked_figures (sl : Slot) (r : Reading) (lim : LimitSet) : (sl.marked r).figures lim = { sl with
    win := { sl.win with
      lastStamp := some r.stamp, fresh := 0, stale := false, battery := r.batt, l1 := shortLevel sl.win.ring
      pk := if sl.use.isStage then none
        else projection lim.k sl.win.minutes sl.win.cur (shortLevel sl.win.ring) } } := rfl

/-- Settles O18: an accepted reading's slot before the role's work, and what the whole reading keeps. -/
theorem acceptedReadingMarksItsSlot : Obligations.AcceptedReadingMarksItsSlot := by
  intro s r rest w sl hrun hqueue hfind hslot hstamp p gap lim b es l1 cur extra terms pk notices
  have hc : classify sl.win.lastStamp r.stamp = .accepted gap := classify_accepted hstamp
  have hl1 : shortLevel b.slot.win.ring = l1 := shortLevel_eq _
  have hextra : extrapolating l1 cur = extra := extrapolating_eq _ _
  have hpk : projection lim.k b.slot.win.minutes cur l1 = pk := by
    have helapsed : cur.elapsed < 60 := Bench.second_elapsed ..
    rw [projection_eq helapsed, hextra]
  let left : State := { s with readings := { queue := rest ++ s.readings.holding.toList, holding := none } }
  have hleft : left.slotAt p w = some sl := hslot
  obtain ⟨hdeclared, _, _⟩ := left.advanced_keeps sl gap r
  obtain ⟨hpoint, huse, hlocked⟩ := Slot.declared_eq_iff.mp hdeclared
  have hself := State.measured_slotAt_self (s := left) (p := p) (w := w) (sl := sl) (n := gap) (r := r)
  have hother (q : SetIx) (v : Way) := State.measured_slotAt_of_ne (s := left) (p := p) (w := w) (sl := sl) (n := gap)
    (r := r) (q := q) (v := v)
  have hpoints (q : SetIx) := State.measured_points_of_ne (s := left) (p := p) (w := w) (sl := sl) (n := gap) (r := r)
    (q := q)
  have hlru := State.measured_lru (s := left) (p := p) (w := w) (sl := sl) (n := gap) (r := r)
  have hframe := State.measured_frame (n := gap) (r := r) hleft
  have htaken : exec .reading s =
      .next (State.transmit ((left.measured p w sl gap r).roleWork p w sl.use lim r)) := by
    have hwork := (State.processReading_present (s := left) hfind).trans (State.windowWork_accepted hleft hc)
    rw [exec_reading, State.act_running hrun, State.takeReading_head hqueue, hwork]
    rfl
  have hadvanced : left.advanced sl gap r = b := rfl
  rw [hadvanced] at hself hframe hpoint huse hlocked
  have hstandby : left.refreshedStandby sl = s.refreshedStandby sl :=
    congrArg (fun x => if sl.win.stale then x else s.standby)
      (State.freshStandby_congr (s := s) (t := left) (sl := sl) (fun _ _ => rfl) rfl rfl rfl)
  rw [State.refreshedControl_eq, hstandby, State.refreshedStandby_eq] at hframe
  generalize left.measured p w sl gap r = m at *
  obtain ⟨worked, _, besides, lrus⟩ := m.roleWork_work p w sl.use lim r
  obtain ⟨sl', hsl', same⟩ := worked _ hself
  obtain ⟨sp, su, slk, _, sring, _, _, sstamp, sl1, _, sfresh, sstale, sbatt⟩ := same
  obtain ⟨ps, x, c, e, sb, rep, hwork⟩ := m.roleWork_frame p w sl.use lim r
  refine ⟨m, _, sl', ?_, hlru, hother p w.other fun h => Way.other_ne w h.2, fun q hq => hpoints q hq, ?_, rfl, htaken,
    hsl', sp.trans hpoint, su.trans huse, slk.trans hlocked, sstamp, sfresh, sstale, sbatt, ?_, (lrus p).trans hlru,
    fun q v hq => (besides q v hq).trans (hother q v hq), ?_⟩
  · have hfigures := b.slot.marked_figures r lim
    rw [hl1, show projection lim.k b.slot.win.minutes b.slot.win.cur l1 = pk from hpk,
      show b.slot.use.isStage = sl.use.isStage from congrArg Use.isStage huse] at hfigures
    exact hself.trans (congrArg some hfigures)
  · exact hframe
  · rw [sl1, sring]
    rfl
  · rw [hwork, hframe]

end Sys2Proof.Machine

/-! A reading of a point that the table does not hold: the victim way, and the ROAMING slot the reading opens (3.4,
3.5, 4.2 to 4.4). -/

namespace Sys2Proof.Machine

/-! ### The victim way (R49) -/

/-- A slot that a reading may not evict. -/
def Slot.Barred (sl : Slot) : Prop := sl.locked = true ∨ ∃ st, sl.use = .stage st

theorem Use.isStage_iff (u : Use) : u.isStage = true ↔ ∃ st, u = .stage st := by
  cases u <;> simp [Use.isStage]

section
variable {ps : PointSet} {w : Way} {a : Slot}

theorem PointSet.usable_iff (h : ps.get w = some a) : ps.usable w = true ↔ ¬a.Barred := by
  rw [Slot.Barred, ← Use.isStage_iff]
  simp [PointSet.usable, h]

theorem PointSet.usable_free (h : ps.get w = none) : ps.usable w = true := by
  simp only [PointSet.usable, h]

theorem PointSet.victim_first (h : ps.usable ps.firstChoice = true) : ps.victim = some ps.firstChoice := if_pos h

theorem PointSet.victim_second (h : ¬ps.usable ps.firstChoice = true) (ho : ps.usable ps.firstChoice.other = true) :
    ps.victim = some ps.firstChoice.other := (if_neg h).trans (if_pos ho)

theorem PointSet.victim_none (h : ¬ps.usable ps.firstChoice = true) (ho : ¬ps.usable ps.firstChoice.other = true) :
    ps.victim = none := (if_neg h).trans (if_neg ho)

end

/-- The victim way in the words of R49. -/
theorem PointSet.victim_cases (ps : PointSet) :
    (ps.way0 = none → ps.victim = some .zero) ∧
    (ps.way0 ≠ none → ps.way1 = none → ps.victim = some .one) ∧
    ∀ a b, ps.way0 = some a → ps.way1 = some b →
      (b.locked = true ∨ ps.lru = .zero →
        (¬a.Barred → ps.victim = some .zero) ∧ (a.Barred → ¬b.Barred → ps.victim = some .one)) ∧
      (b.locked = false → ps.lru = .one →
        (¬b.Barred → ps.victim = some .one) ∧ (b.Barred → ¬a.Barred → ps.victim = some .zero)) ∧
      (a.Barred → b.Barred → ps.victim = none) := by
  refine ⟨fun h0 => ?_, fun h0 h1 => ?_, fun a b h0 h1 => ?_⟩
  · have hfirst : ps.firstChoice = .zero := by simp only [PointSet.firstChoice, h0]
    rw [PointSet.victim_first (hfirst ▸ PointSet.usable_free h0), hfirst]
  · obtain ⟨a, ha⟩ := Option.ne_none_iff_exists'.mp h0
    have hfirst : ps.firstChoice = .one := by simp only [PointSet.firstChoice, ha, h1]
    rw [PointSet.victim_first (hfirst ▸ PointSet.usable_free h1), hfirst]
  have hzero : ps.usable .zero = true ↔ ¬a.Barred := PointSet.usable_iff h0
  have hone : ps.usable .one = true ↔ ¬b.Barred := PointSet.usable_iff h1
  have choice : ps.firstChoice = if b.locked then .zero else ps.lru := by simp only [PointSet.firstChoice, h0, h1]
  refine ⟨fun h => ?_, fun hl hr => ?_, fun ha hb => ?_⟩
  · have hfirst : ps.firstChoice = .zero := by
      rw [choice]
      rcases h with h | h
      · exact if_pos h
      · rw [h, ite_self]
    refine ⟨fun ha => ?_, fun ha hb => ?_⟩
    · rw [PointSet.victim_first (hfirst ▸ hzero.mpr ha), hfirst]
    · rw [PointSet.victim_second (hfirst ▸ mt hzero.mp (not_not.mpr ha)) (hfirst ▸ hone.mpr hb), hfirst]
      rfl
  · have hfirst : ps.firstChoice = .one := by rw [choice, hl, hr]; rfl
    refine ⟨fun hb => ?_, fun hb ha => ?_⟩
    · rw [PointSet.victim_first (hfirst ▸ hone.mpr hb), hfirst]
    · rw [PointSet.victim_second (hfirst ▸ mt hone.mp (not_not.mpr hb)) (hfirst ▸ hzero.mpr ha), hfirst]
      rfl
  · have none_usable (v : Way) : ¬ps.usable v = true := by
      cases v with
      | zero => exact mt hzero.mp (not_not.mpr ha)
      | one => exact mt hone.mp (not_not.mpr hb)
    exact PointSet.victim_none (none_usable _) (none_usable _)

/-! ### The seat of an absent point (R50) -/

section
variable {s : State} {r : Reading} (h : (s.points[setOf r.point]).find r.point = none)
include h

theorem State.processReading_noSlot (hv : (s.points[setOf r.point]).victim = none) :
    s.processReading r = s.count (.device 5) := by
  simp only [State.processReading, State.seat, h, hv]
  rfl

variable {w : Way} (hv : (s.points[setOf r.point]).victim = some w)
include hv

theorem State.processReading_busy (he : s.evict (setOf r.point) w .evictedByReading = none) :
    s.processReading r = s.count (.device 6) := by
  simp only [State.processReading, State.seat, h, hv, he]
  rfl

theorem State.processReading_seated
    (hroom : ∀ v, s.slotAt (setOf r.point) w = some v → v.dirty = false ∨ s.reports.queue.length < 48 ∨
      ∃ e ∈ s.reports.queue, e.notice.cls = .routine) :
    s.processReading r =
      (s.seated w .evictedByReading r.point (.roaming r.hint) false).windowWork (setOf r.point) w r := by
  simp only [State.processReading, State.seat, h, hv, State.evict_eq hroom]
  rfl

end

/-! ### The first reading of a ROAMING slot (R59 to R61, R66, R69) -/

/-- What a second of a reading puts in the second ring. -/
def Reading.second (r : Reading) : Option Nat := if r.cal then none else some (energy r.level)

/-- The open minute after a slot's first reading. -/
def Reading.firstMinute (r : Reading) : OpenMinute :=
  { OpenMinute.empty with
    elapsed := 1, overrun := r.overrun
    sum := if r.cal then 0 else energy r.level
    count := if r.cal then 0 else 1
    peak := if r.cal then none else some r.peak
    cal := if r.cal then 1 else 0
    clip := if r.cal = false ∧ (r.clip = true ∨ r.overMark = true) then 1 else 0 }

/-- The slot a first reading leaves before its role's work. -/
def Reading.firstSlot (r : Reading) : Slot :=
  { Slot.new r.point (.roaming r.hint) false with
    win := { WindowRecord.empty with
      ring := pushSecond WindowRecord.empty.ring r.second, cur := r.firstMinute, lastStamp := some r.stamp
      battery := r.batt, pk := if r.cal then none else some (recover (energy r.level)) } }

section
variable (r : Reading)

theorem Bench.place_first (reports : Reports) (dark : Bool) (lim : LimitSet) :
    Bench.place { slot := Slot.new r.point (.roaming r.hint) false, reports := reports } dark lim r =
      { slot := { Slot.new r.point (.roaming r.hint) false with
          win := { WindowRecord.empty with
            ring := pushSecond WindowRecord.empty.ring r.second, cur := r.firstMinute } }
        reports := reports } := by
  have elapsed : (({ OpenMinute.empty with overrun := false || r.overrun } : OpenMinute).take r).elapsed = 0 := by
    unfold OpenMinute.take
    split <;> rfl
  refine (Bench.second_open _ dark lim _ (lt_of_eq_of_lt elapsed (by decide))).trans ?_
  unfold Reading.firstMinute Reading.second OpenMinute.take
  cases r.cal with
  | true => rfl
  | false =>
    simp [Slot.new, WindowRecord.empty, OpenMinute.empty, raise]

/-- One second does not make a short level. -/
theorem shortLevel_first (e : Option Nat) : shortLevel (pushSecond WindowRecord.empty.ring e) = none := by
  have hone : ((pushSecond WindowRecord.empty.ring e).toList.filterMap id).length ≤ 1 := by
    rw [pushSecond_toList, List.filterMap_append, List.length_append]
    have hempty : (WindowRecord.empty.ring.toList.tail.filterMap id).length = 0 := by decide
    rw [hempty, Nat.zero_add]
    exact List.length_filterMap_le id [e]
  rw [shortLevel_eq, if_pos (by omega)]

theorem projection_first (k : Nat) : projection k [] r.firstMinute none =
    if r.cal then none else some (recover (energy r.level)) := by
  have helapsed : r.firstMinute.elapsed = 1 := rfl
  rw [projection_eq (by omega), extrapolating_eq]
  unfold Reading.firstMinute
  cases r.cal with
  | true => rfl
  | false =>
    have hmean : (energy r.level + energy r.level * 59) / 60 = energy r.level := by omega
    simp [hmean]

/-- The slot a first reading leaves. -/
def Reading.seatedSlot (r : Reading) : Slot :=
  { r.firstSlot with win := { r.firstSlot.win with worstPeak := if r.cal then none else some r.peak } }

theorem Slot.figures_first (lim : LimitSet) : (({ Slot.new r.point (.roaming r.hint) false with
    win := { WindowRecord.empty with
      ring := pushSecond WindowRecord.empty.ring r.second, cur := r.firstMinute } } : Slot).marked r).figures lim =
    r.firstSlot := by
  rw [Slot.marked_figures, Reading.firstSlot, ← projection_first r lim.k]
  dsimp only
  rw [shortLevel_first]
  rfl

theorem State.roleWork_first {m : State} {p : SetIx} {w : Way} (h : m.slotAt p w = some r.firstSlot) (lim : LimitSet) :
    m.roleWork p w (.roaming r.hint) lim r = State.putSlot { m with
      sched := if r.cal then m.sched else m.sched.score r.hint false (headroom lim none r.firstSlot.win.pk)
      reports := if r.cal = false ∧ lim.ceiling < r.peak then m.reports.count (.peaks r.hint) else m.reports }
      p w (some r.seatedSlot) := by
  unfold Reading.seatedSlot
  cases hcal : r.cal with
  | true =>
    rw [State.roleWork_roaming_cal h lim r.hint hcal]
    rfl
  | false =>
    rw [State.roleWork_roaming h lim r.hint hcal, Reports.countScore_eq]
    have hpeak : (if false = false ∧ lim.ceiling < r.peak then m.reports.count (.peaks r.hint) else m.reports) =
        if lim.ceiling < r.peak then m.reports.count (.peaks r.hint) else m.reports :=
      if_congr (and_iff_right rfl) rfl rfl
    rw [hpeak]
    rfl

end

/-! ### The whole reading -/

/-- The reports after a first reading has marked its slot. -/
def State.heardFirst (s : State) (w : Way) (r : Reading) : Reports :=
  if r.batt then (s.closedReports (setOf r.point) w .evictedByReading).offer (.batteryLow r.point (.roaming r.hint))
  else s.closedReports (setOf r.point) w .evictedByReading

/-- The state after the first reading of an absent point. -/
def State.opened (s : State) (w : Way) (r : Reading) : State :=
  let u := s.seated w .evictedByReading r.point (.roaming r.hint) false
  let m := u.measured (setOf r.point) w (Slot.new r.point (.roaming r.hint) false) 0 r
  let lim := s.sched.zoneLimits r.hint
  State.putSlot { m with
    sched := if r.cal then m.sched else m.sched.score r.hint false (headroom lim none r.firstSlot.win.pk)
    reports := if r.cal = false ∧ lim.ceiling < r.peak then m.reports.count (.peaks r.hint) else m.reports }
    (setOf r.point) w (some r.seatedSlot)

section
variable {s : State} {w : Way} {r : Reading}

theorem State.seated_slotAt_self {cause : CloseCause} {pt : PointId} {use : Use} {lock : Bool} :
    (s.seated w cause pt use lock).slotAt (setOf pt) w = some (Slot.new pt use lock) :=
  (State.seated_slotAt ..).trans (if_pos ⟨rfl, rfl⟩)

theorem State.windowWork_seated :
    (s.seated w .evictedByReading r.point (.roaming r.hint) false).windowWork (setOf r.point) w r = s.opened w r := by
  refine (State.windowWork_accepted State.seated_slotAt_self rfl).trans (State.roleWork_first r ?_ _)
  rw [State.measured_slotAt_self, ← Slot.figures_first r (s.sched.zoneLimits r.hint)]
  exact congrArg (fun b : Bench => some ((b.slot.marked r).figures (s.sched.zoneLimits r.hint)))
    (Bench.place_first r (s.closedReports (setOf r.point) w .evictedByReading) s.standby.dark
      (s.sched.zoneLimits r.hint))

theorem State.opened_slotAt_self : (s.opened w r).slotAt (setOf r.point) w = some r.seatedSlot :=
  State.slotAt_putSlot_self ..

theorem State.opened_slotAt_of_ne {q : SetIx} {v : Way} (h : ¬(q = setOf r.point ∧ v = w)) :
    (s.opened w r).slotAt q v = s.slotAt q v := by
  refine (State.slotAt_putSlot_of_ne _ _ h).trans ((State.measured_slotAt_of_ne h).trans ?_)
  rw [State.seated_slotAt, if_neg h]

theorem State.opened_points_of_ne {q : SetIx} (h : q ≠ setOf r.point) : (s.opened w r).points[q] = s.points[q] :=
  (State.points_putSlot_of_ne _ w _ h).trans ((State.measured_points_of_ne h).trans (State.seated_points_of_ne h))

theorem State.opened_lru : ((s.opened w r).points[setOf r.point]).lru = w.other :=
  (State.lru_putSlot ..).trans State.measured_lru

theorem State.opened_frame : s.opened w r = { s with
    points := (s.opened w r).points
    exporter := (s.vacated (setOf r.point) w .evictedByReading).exporter
    reports := if r.cal = false ∧ (s.sched.zoneLimits r.hint).ceiling < r.peak then
        (s.heardFirst w r).count (.peaks r.hint)
      else s.heardFirst w r
    sched := if r.cal then s.sched else
      s.sched.score r.hint false (headroom (s.sched.zoneLimits r.hint) none r.firstSlot.win.pk) } := by
  have measured := State.measured_frame (n := 0) (r := r)
    (State.seated_slotAt_self (s := s) (w := w) (cause := .evictedByReading) (pt := r.point)
      (use := .roaming r.hint) (lock := false))
  have hreports : ((Slot.new r.point (.roaming r.hint) false).freshNotices r).foldl Reports.offer
      ((s.seated w .evictedByReading r.point (.roaming r.hint) false).advanced
        (Slot.new r.point (.roaming r.hint) false) 0 r).reports = s.heardFirst w r := by
    have placed : ((s.seated w .evictedByReading r.point (.roaming r.hint) false).advanced
        (Slot.new r.point (.roaming r.hint) false) 0 r).reports =
          s.closedReports (setOf r.point) w .evictedByReading :=
      congrArg Bench.reports (Bench.place_first r _ _ _)
    rw [placed]
    unfold State.heardFirst Slot.freshNotices
    cases r.batt <;> rfl
  rw [hreports] at measured
  unfold State.opened
  dsimp only
  rw [measured]
  rfl

end

/-- Settles O17: the victim way, and a reading of an absent point that finds no way, a victim that cannot be closed,
or a seat. -/
theorem readingOfAnAbsentPointIsSeatedOrCounted : Obligations.ReadingOfAnAbsentPointIsSeatedOrCounted := by
  refine ⟨fun ps => ps.victim_cases, fun s r rest hrun hqueue hfind => ?_⟩
  intro p left
  have taken {t : State} (h : left.processReading r = t) : exec .reading s = .next t.transmit := by
    rw [exec_reading, State.act_running hrun, State.takeReading_head hqueue, ← h]
  refine ⟨fun hv => taken (State.processReading_noSlot (s := left) hfind hv), fun w hv => ⟨fun v hsl hd hq hnone => ?_,
    fun hroom => ?_⟩⟩
  · exact taken (State.processReading_busy (s := left) hfind hv (State.evict_refused (s := left) hsl hd hq hnone))
  · intro closed heard lim
    have hclosed : left.closedReports p w .evictedByReading = closed := rfl
    have hheard : left.heardFirst w r = heard := by
      rw [State.heardFirst, hclosed]
    have hframe := left.opened_frame (w := w) (r := r)
    rw [hheard] at hframe
    refine ⟨left.opened w r, r.seatedSlot,
      taken ((State.processReading_seated (s := left) hfind hv hroom).trans State.windowWork_seated),
      State.opened_slotAt_self, rfl, ?_, State.opened_lru, State.opened_slotAt_of_ne fun h => Way.other_ne w h.2,
      fun q hq => State.opened_points_of_ne hq, hframe⟩
    exact pushSecond_toList WindowRecord.empty.ring r.second

end Sys2Proof.Machine

/-! The freshness tick (4.7, 6.4): the slots it ages, those it turns stale, and who hears of them. -/

namespace Sys2Proof.Machine

/-- A way of a set of the point table. -/
abbrev Place := SetIx × Way

/-- The ways of the table in the order of the tick's visit (log entry 9). -/
def allPlaces : List Place := allSets.flatMap fun p => [(p, .zero), (p, .one)]

theorem allPlaces_nodup : allPlaces.Nodup := by decide

theorem mem_allPlaces (x : Place) : x ∈ allPlaces := by
  obtain ⟨p, w⟩ := x
  refine List.mem_flatMap.mpr ⟨p, mem_allSets p, ?_⟩
  cases w <;> simp

/-! ### The slots that a tick turns stale (R73, R74) -/

/-- A slot that a tick turns stale. -/
def Slot.turns (strap : Fin 2) (sl : Slot) : Bool :=
  !sl.win.stale && decide (staleTicks strap sl.use ≤ sl.win.fresh + 1)

theorem staleTicks_eq (strap : Fin 2) (u : Use) : staleTicks strap u =
    if u.fixed then (if strap = 0 then 4 else 16) else if u.isStage then 4 else 60 := by
  cases u <;> rfl

theorem Slot.ticked_eq (sl : Slot) (strap : Fin 2) : sl.ticked strap =
    if sl.win.stale then sl
    else { sl with win := { sl.win with fresh := sl.win.fresh + 1, stale := sl.turns strap } } := by
  unfold Slot.ticked Slot.turns
  cases sl.win.stale <;> rfl

/-- The notice of a slot that turns stale (R74). -/
def Slot.staleNotice (sl : Slot) : Notice := .pointStale sl.point sl.use sl.win.lastStamp

/-- The slot of a place, if the tick turns it stale. -/
def State.turnedAt (s : State) (x : Place) : List Slot := (s.slotAt x.1 x.2).toList.filter (·.turns s.straps.stale)

/-- The slots of some places that the tick turns stale, in order. -/
def State.turnedOf (s : State) (l : List Place) : List Slot := l.flatMap s.turnedAt

theorem State.turnedOf_allPlaces (s : State) : s.turnedOf allPlaces = s.slots.filter (·.turns s.straps.stale) := by
  rw [State.turnedOf, allPlaces, List.flatMap_assoc, State.slots, List.filter_flatMap]
  refine List.flatMap_congr fun p _ => ?_
  simp [State.turnedAt, PointSet.slots, State.slotAt, PointSet.get]

/-- The place's slot turns stale and owns its set's column. -/
def State.freezes (s : State) (x : Place) : Bool :=
  (s.turnedAt x).any fun sl => sl.use.fixed && decide ((s.points[x.1]).owner = some sl.point)

theorem State.freezes_turned {s : State} {x : Place} {sl : Slot} (h : s.turnedAt x = [sl]) :
    s.freezes x = (sl.use.fixed && decide ((s.points[x.1]).owner = some sl.point)) := by
  rw [State.freezes, h, List.any_cons, List.any_nil, Bool.or_false]

/-- The monitor hears of a stale slot (R74). -/
def State.toldStale (s : State) (sl : Slot) : State :=
  match sl.use with
  | .stage st => s.stageStale st
  | .boundary _ => s
  | .foh _ => s
  | .roaming _ => s

theorem State.toldStale_eq : State.toldStale = fun s sl => match sl.use with
    | .stage st => s.stageStale st
    | _ => s := by
  funext s sl
  unfold State.toldStale
  cases sl.use with
  | _ a => rfl

/-! ### What the monitor hears -/

section
variable {s t : State}

theorem State.stageStale_standby_congr (hb : t.standby = s.standby) (hn : t.now = s.now)
    (hm : t.hasMeter = s.hasMeter) (st : Stage) : (t.stageStale st).standby = (s.stageStale st).standby := by
  cases hd : s.standby.dark with
  | true => rw [State.stageStale_dark st (hb ▸ hd), State.stageStale_dark st hd, hb]
  | false =>
    rw [State.stageStale_light st (hb ▸ hd), State.stageStale_light st hd, State.timerOn_congr hb hn hm, hb]

theorem State.stageStale_quiet (s : State) (st : Stage) :
    (s.stageStale st).standby.quiet = s.standby.quiet.set st true := by
  cases hd : s.standby.dark with
  | true => rw [State.stageStale_dark st hd]
  | false => rw [State.stageStale_light st hd]

theorem State.toldStale_frame (s : State) (sl : Slot) : ∃ b, s.toldStale sl = { s with standby := b } := by
  unfold State.toldStale
  cases sl.use with
  | stage st => exact s.stageStale_frame st
  | _ z => exact ⟨_, rfl⟩

theorem State.toldStale_standby_congr (hb : t.standby = s.standby) (hn : t.now = s.now)
    (hm : t.hasMeter = s.hasMeter) (sl : Slot) : (t.toldStale sl).standby = (s.toldStale sl).standby := by
  unfold State.toldStale
  cases sl.use with
  | stage st => exact State.stageStale_standby_congr hb hn hm st
  | _ z => exact hb

theorem State.foldl_toldStale_congr (l : List Slot) (hb : t.standby = s.standby) (hn : t.now = s.now)
    (hm : t.hasMeter = s.hasMeter) : (l.foldl State.toldStale t).standby = (l.foldl State.toldStale s).standby := by
  induction l generalizing s t with
  | nil => exact hb
  | cons sl l ih =>
    obtain ⟨b, hs⟩ := s.toldStale_frame sl
    obtain ⟨c, ht⟩ := t.toldStale_frame sl
    have told := State.toldStale_standby_congr hb hn hm sl
    refine ih told ?_ ?_
    · rw [hs, ht]
      exact hn
    · rw [hs, ht]
      exact hm

theorem State.foldl_toldStale_frame (l : List Slot) (s : State) :
    ∃ b, l.foldl State.toldStale s = { s with standby := b } := by
  induction l generalizing s with
  | nil => exact ⟨_, rfl⟩
  | cons sl l ih =>
    obtain ⟨b, hs⟩ := s.toldStale_frame sl
    obtain ⟨c, ht⟩ := ih (s.toldStale sl)
    rw [List.foldl_cons, ht, hs]
    exact ⟨_, rfl⟩

theorem State.toldStale_quiet (s : State) (sl : Slot) (st : Stage)
    (h : s.standby.quiet[st] = true ∨ sl.use = .stage st) : (s.toldStale sl).standby.quiet[st] = true := by
  unfold State.toldStale
  cases hu : sl.use with
  | stage st' =>
    dsimp only
    rw [State.stageStale_quiet]
    rcases h with h | h
    · simp only [Fin.getElem_fin, Vector.getElem_set]
      split
      · rfl
      · exact h
    · rw [hu] at h
      cases h
      simp
  | _ z =>
    rw [hu] at h
    exact h.resolve_right nofun

theorem State.foldl_toldStale_quiet (l : List Slot) (s : State) (st : Stage)
    (h : s.standby.quiet[st] = true ∨ ∃ sl ∈ l, sl.use = .stage st) :
    (l.foldl State.toldStale s).standby.quiet[st] = true := by
  induction l generalizing s with
  | nil => exact h.resolve_right (by simp)
  | cons sl l ih =>
    refine ih (s.toldStale sl) ?_
    rcases h with h | ⟨x, hx, hu⟩
    · exact .inl (s.toldStale_quiet sl st (.inl h))
    · rcases List.mem_cons.mp hx with rfl | hx
      · exact .inl (s.toldStale_quiet x st (.inr hu))
      · exact .inr ⟨x, hx, hu⟩

end

/-! ### What the control block hears (R113) -/

section
variable (s : State) (p q : SetIx) (sl : Slot)

theorem State.freezeSet_freeze : (s.freezeSet p).control.freeze[q] =
    if q = p ∧ s.control.freeze[q] = .active then .frozen (s.now + Config.freezeTime) else s.control.freeze[q] := by
  unfold State.freezeSet
  cases hp : s.control.freeze[p] with
  | active =>
    by_cases hq : q = p
    · subst hq
      rw [if_pos ⟨rfl, hp⟩]
      simp [Control.setFreeze]
    · have hval : p.val ≠ q.val := fun e => hq (Fin.ext e.symm)
      rw [if_neg fun h => hq h.1]
      simp [Control.setFreeze, hval]
  | frozen due =>
    refine (if_neg ?_).symm
    rintro ⟨rfl, h⟩
    rw [hp] at h
    cases h
  | precaution =>
    refine (if_neg ?_).symm
    rintro ⟨rfl, h⟩
    rw [hp] at h
    cases h

theorem State.tellStale_eq : s.tellStale p sl =
    if sl.use.fixed = true ∧ (s.points[p]).owner = some sl.point then s.freezeSet p else s.toldStale sl := by
  have owned {u : Use} (hu : u.fixed = true) : (if (s.points[p]).owner = some sl.point then s.freezeSet p else s) =
      if u.fixed = true ∧ (s.points[p]).owner = some sl.point then s.freezeSet p else s :=
    if_congr (and_iff_right hu).symm rfl rfl
  unfold State.tellStale State.toldStale
  cases sl.use with
  | boundary z => exact owned rfl
  | foh z => exact owned rfl
  | stage st => exact (if_neg fun h => nomatch h.1).symm
  | roaming z => exact (if_neg fun h => nomatch h.1).symm

theorem State.freezeSet_control : s.freezeSet p =
    { s with control := { s.control with freeze := (s.freezeSet p).control.freeze } } := by
  unfold State.freezeSet
  cases s.control.freeze[p] <;> rfl

end

/-! ### A visit of some ways -/

/-- What a tick that visited some ways has made of a state. -/
structure State.Aged (u : State) (l : List Place) (t : State) : Prop where
  slots : ∀ q v, t.slotAt q v =
    if (q, v) ∈ l then (u.slotAt q v).map (·.ticked u.straps.stale) else u.slotAt q v
  lru : ∀ q : SetIx, (t.points[q]).lru = (u.points[q]).lru
  freeze : ∀ q : SetIx, t.control.freeze[q] =
    if (∃ x ∈ l, x.1 = q ∧ u.freezes x = true) ∧ u.control.freeze[q] = .active then
      .frozen (u.now + Config.freezeTime)
    else u.control.freeze[q]
  frame : t = { u with
    points := t.points, control := { u.control with freeze := t.control.freeze }
    reports := ((u.turnedOf l).map Slot.staleNotice).foldl Reports.offer
      u.reports
    standby := ((u.turnedOf l).foldl State.toldStale u).standby }

theorem Slot.ticked_declared (sl : Slot) (strap : Fin 2) : (sl.ticked strap).declared = sl.declared := by
  unfold Slot.ticked
  split <;> rfl

section
variable {u v t : State} {l : List Place} {x : Place}

theorem State.Aged.sameDeclared (h : u.Aged l t) : u.SameDeclared t := by
  intro p w
  rw [h.slots]
  split
  · rw [Option.map_map]
    exact congrArg (Option.map · _) (funext fun sl => sl.ticked_declared _)
  · rfl

theorem State.Aged.straps (h : u.Aged l t) : t.straps = u.straps := by rw [h.frame]

theorem State.Aged.now (h : u.Aged l t) : t.now = u.now := by rw [h.frame]

/-- A visited way changes nothing for the ways still to visit. -/
theorem State.Aged.turnedAt (h : u.Aged [x] t) {y : Place} (hy : y ≠ x) : t.turnedAt y = u.turnedAt y := by
  have hslot : t.slotAt y.1 y.2 = u.slotAt y.1 y.2 := by
    rw [h.slots, if_neg (by simpa using hy)]
  rw [State.turnedAt, hslot, h.straps, State.turnedAt]

theorem State.Aged.freezes (h : u.Aged [x] t) {y : Place} (hy : y ≠ x) : t.freezes y = u.freezes y := by
  rw [State.freezes, h.turnedAt hy, h.sameDeclared.owner_eq, State.freezes]

theorem State.Aged.turnedOf (h : u.Aged [x] t) (hx : x ∉ l) : t.turnedOf l = u.turnedOf l :=
  List.flatMap_congr fun _ hy => h.turnedAt (ne_of_mem_of_not_mem hy hx)

theorem State.Aged.nil (u : State) : u.Aged [] u where
  slots := fun _ _ => rfl
  lru := fun _ => rfl
  freeze := fun q => by simp
  frame := rfl

/-- One way after another. -/
theorem State.Aged.cons (h : u.Aged [x] v) (hx : x ∉ l) (h' : v.Aged l t) : u.Aged (x :: l) t where
  slots := fun q w => by
    rw [h'.slots, h.slots, h.straps]
    by_cases hl : (q, w) ∈ l
    · have hne : ¬(q, w) ∈ [x] := by simpa using ne_of_mem_of_not_mem hl hx
      rw [if_pos hl, if_neg hne, if_pos (List.mem_cons_of_mem _ hl)]
    · rw [if_neg hl]
      exact if_congr (by simp [hl]) rfl rfl
  lru := fun q => (h'.lru q).trans (h.lru q)
  freeze := fun q => by
    have hrest : (∃ y ∈ l, y.1 = q ∧ v.freezes y = true) ↔ ∃ y ∈ l, y.1 = q ∧ u.freezes y = true :=
      exists_congr fun y => and_congr_right fun hy => by rw [h.freezes (ne_of_mem_of_not_mem hy hx)]
    have hfirst := h.freeze q
    rw [h'.freeze, h.now]
    simp only [List.mem_cons, List.not_mem_nil, or_false, exists_eq_or_imp, exists_eq_left, hrest] at hfirst ⊢
    by_cases hfrozen : (x.1 = q ∧ u.freezes x = true) ∧ u.control.freeze[q] = .active
    · rw [if_pos hfrozen] at hfirst
      rw [hfirst, if_neg fun hv => nomatch hv.2]
      exact (if_pos ⟨.inl hfrozen.1, hfrozen.2⟩).symm
    · rw [if_neg hfrozen] at hfirst
      rw [hfirst]
      refine if_congr (and_congr_left fun hactive => ?_) rfl rfl
      exact (or_iff_right fun hx => hfrozen ⟨hx, hactive⟩).symm
  frame := by
    have hturned := h.turnedOf hx
    have hall : u.turnedOf (x :: l) = u.turnedOf [x] ++ u.turnedOf l := by simp [State.turnedOf]
    obtain ⟨b, htold⟩ := State.foldl_toldStale_frame (u.turnedOf [x]) u
    have hstandby : ((u.turnedOf (x :: l)).foldl State.toldStale u).standby =
        ((u.turnedOf l).foldl State.toldStale v).standby := by
      rw [hall, List.foldl_append]
      refine State.foldl_toldStale_congr _ (congrArg State.standby h.frame).symm ?_ ?_
      · rw [htold, h.now]
      · rw [htold, h.sameDeclared.hasMeter_eq]
        rfl
    have hreports : ((u.turnedOf (x :: l)).map Slot.staleNotice).foldl
        Reports.offer u.reports =
        ((u.turnedOf l).map Slot.staleNotice).foldl Reports.offer
          v.reports := by
      rw [hall, List.map_append, List.foldl_append]
      exact congrArg (fun rep : Reports => ((u.turnedOf l).map Slot.staleNotice).foldl Reports.offer rep)
        (congrArg State.reports h.frame).symm
    have hframe := h'.frame
    rw [hturned] at hframe
    rw [hstandby, hreports]
    refine hframe.trans ?_
    rw [h.frame]

theorem State.toldStale_fixed (s : State) {sl : Slot} (h : sl.use.fixed = true) : s.toldStale sl = s := by
  unfold State.toldStale
  cases hu : sl.use with
  | stage st => rw [hu] at h; cases h
  | _ z => rfl

/-- A visit that ages a slot in its way. -/
def State.agedAt (s : State) (p : SetIx) (w : Way) (sl : Slot) : State :=
  s.putSlot p w (some (sl.ticked s.straps.stale))

theorem State.agedAt_sameDeclared {p : SetIx} {w : Way} {sl : Slot} (h : u.slotAt p w = some sl) :
    u.SameDeclared (u.agedAt p w sl) := by
  intro q v
  rw [State.agedAt, State.slotAt_putSlot]
  split
  · next hq =>
    obtain ⟨rfl, rfl⟩ := hq
    rw [h]
    exact congrArg some (sl.ticked_declared _)
  · rfl

/-- A visit to a slot that does not turn stale. -/
theorem State.tickSlot_kept_fresh {p : SetIx} {w : Way} {sl : Slot} (h : u.slotAt p w = some sl)
    (ht : sl.turns u.straps.stale = false) : u.tickSlot p w = u.agedAt p w sl := by
  unfold State.tickSlot State.agedAt
  rw [Slot.ticked_eq, ht]
  unfold Slot.turns at ht
  cases hs : sl.win.stale with
  | true =>
    have hput := u.putSlot_slotAt p w
    rw [h] at hput
    simp only [h, hs, if_true, hput]
  | false =>
    rw [hs] at ht
    have hnot : ¬staleTicks u.straps.stale sl.use ≤ sl.win.fresh + 1 := by simpa using ht
    simp only [h, hs, hnot, Bool.false_eq_true, if_false]

/-- A visit to a slot that turns stale. -/
theorem State.tickSlot_turned {p : SetIx} {w : Way} {sl : Slot} (h : u.slotAt p w = some sl)
    (ht : sl.turns u.straps.stale = true) : u.tickSlot p w =
      if sl.use.fixed = true ∧ (u.points[p]).owner = some sl.point then
        State.freezeSet { u.agedAt p w sl with reports := u.reports.offer sl.staleNotice } p
      else { u.agedAt p w sl with
        reports := u.reports.offer sl.staleNotice, standby := (u.toldStale sl).standby } := by
  have hboth := ht
  simp only [Slot.turns, Bool.and_eq_true, Bool.not_eq_true', decide_eq_true_eq] at hboth
  obtain ⟨hs, hle⟩ := hboth
  have hticked : sl.ticked u.straps.stale =
      { sl with win := { sl.win with fresh := sl.win.fresh + 1, stale := true } } := by
    rw [Slot.ticked_eq, ht, if_neg (by simp [hs])]
  obtain ⟨hp, hu, _⟩ := Slot.declared_eq_iff.mp (sl.ticked_declared u.straps.stale)
  have hdeclared := State.agedAt_sameDeclared h
  have hvisit : u.tickSlot p w =
      State.tellStale { u.agedAt p w sl with reports := u.reports.offer sl.staleNotice } p
        (sl.ticked u.straps.stale) := by
    simp only [State.tickSlot, h, hs, hle, Bool.false_eq_true, if_false, if_true, State.agedAt, hticked]
    rfl
  have howner : ((u.agedAt p w sl).points[p]).owner = (u.points[p]).owner := hdeclared.owner_eq p
  rw [hvisit, State.tellStale_eq, hp, hu]
  refine ite_congr (by rw [howner]) (fun _ => rfl) fun _ => ?_
  have hsame : State.toldStale { u.agedAt p w sl with reports := u.reports.offer sl.staleNotice }
      (sl.ticked u.straps.stale) =
        State.toldStale { u.agedAt p w sl with reports := u.reports.offer sl.staleNotice } sl := by
    unfold State.toldStale
    rw [hu]
  obtain ⟨b, hb⟩ :=
    State.toldStale_frame { u.agedAt p w sl with reports := u.reports.offer sl.staleNotice } sl
  have hstandby := State.toldStale_standby_congr (s := u)
    (t := { u.agedAt p w sl with reports := u.reports.offer sl.staleNotice }) rfl rfl hdeclared.hasMeter_eq sl
  rw [hb] at hstandby
  rw [hsame, hb, ← hstandby]

/-- One visit of a way (R73 to R75, R113). -/
theorem State.tickSlot_aged (u : State) (p : SetIx) (w : Way) : u.Aged [(p, w)] (u.tickSlot p w) := by
  have slots (q : SetIx) (v : Way) : (u.tickSlot p w).slotAt q v =
      if (q, v) ∈ [(p, w)] then (u.slotAt q v).map (·.ticked u.straps.stale) else u.slotAt q v := by
    rw [State.tickSlot_slotAt]
    by_cases hq : q = p ∧ v = w
    · obtain ⟨rfl, rfl⟩ := hq
      simp
    · rw [if_neg hq, if_neg (by simpa using hq)]
  -- a visit that turns nothing stale tells nobody
  have quiet (hnone : u.turnedAt (p, w) = []) (hframe : u.tickSlot p w = { u with points := (u.tickSlot p w).points }) :
      u.Aged [(p, w)] (u.tickSlot p w) :=
    { slots := slots
      lru := fun q => u.tickSlot_lru p q w
      freeze := fun q => by
        have hfree : u.freezes (p, w) = false := by rw [State.freezes, hnone]; rfl
        rw [if_neg (by simp [hfree]), hframe]
      frame := by
        have hof : u.turnedOf [(p, w)] = [] := by simp [State.turnedOf, hnone]
        rw [hof]
        exact hframe.trans (by rw [hframe]; rfl) }
  cases hsl : u.slotAt p w with
  | none =>
    have hnone : u.turnedAt (p, w) = [] := by simp [State.turnedAt, hsl]
    refine quiet hnone ?_
    simp only [State.tickSlot, hsl]
  | some sl =>
    have hof : u.turnedAt (p, w) = if sl.turns u.straps.stale then [sl] else [] := by
      simp only [State.turnedAt, hsl, Option.toList_some, List.filter_cons, List.filter_nil]
    cases hturn : sl.turns u.straps.stale with
    | false =>
      rw [hturn] at hof
      refine quiet hof ?_
      rw [State.tickSlot_kept_fresh hsl hturn]
      rfl
    | true =>
      rw [hturn] at hof
      have hall : u.turnedOf [(p, w)] = [sl] := by simp [State.turnedOf, hof]
      have htick := State.tickSlot_turned hsl hturn
      by_cases howner : sl.use.fixed = true ∧ (u.points[p]).owner = some sl.point
      · have hfreezes : u.freezes (p, w) = true := by
          rw [State.freezes_turned hof, howner.1, decide_eq_true howner.2]
          rfl
        have hfrozen := htick.trans (if_pos howner)
        exact {
          slots := slots
          lru := fun q => u.tickSlot_lru p q w
          freeze := fun q => by
            rw [hfrozen, State.freezeSet_freeze]
            refine if_congr (and_congr_left fun _ => ?_) rfl rfl
            exact ⟨fun hq => ⟨(p, w), List.mem_singleton_self _, hq.symm, hfreezes⟩,
              fun ⟨x, hx, hq, _⟩ => hq.symm.trans (congrArg Prod.fst (List.mem_singleton.mp hx))⟩
          frame := by
            have hmonitor : u.toldStale sl = u := State.toldStale_fixed u howner.1
            rw [hall, List.foldl_cons, List.foldl_nil, hmonitor]
            rw [hfrozen, State.freezeSet_control]
            rfl }
      · have hfreezes : u.freezes (p, w) = false := by
          rw [State.freezes_turned hof, ← Bool.not_eq_true, Bool.and_eq_true, decide_eq_true_eq]
          exact howner
        have htold := htick.trans (if_neg howner)
        exact {
          slots := slots
          lru := fun q => u.tickSlot_lru p q w
          freeze := fun q =>
            (congrArg (fun y : State => y.control.freeze[q]) htold).trans (if_neg (by simp [hfreezes])).symm
          frame := by
            rw [hall, List.foldl_cons, List.foldl_nil, htold]
            rfl }

theorem State.aged_foldl {l : List Place} (hl : l.Nodup) (u : State) :
    u.Aged l (l.foldl (fun t x => t.tickSlot x.1 x.2) u) := by
  induction l generalizing u with
  | nil => exact .nil u
  | cons x l ih =>
    obtain ⟨hx, hl⟩ := List.nodup_cons.mp hl
    exact (u.tickSlot_aged x.1 x.2).cons hx (ih hl _)

/-- The state in which a freshness tick begins its visits. -/
def State.tickBegun (s : State) : State := { s.reach s.freshAt with freshAt := s.freshAt + Config.freshPeriod }

theorem State.freshnessTick_aged (s : State) : s.tickBegun.Aged allPlaces s.freshnessTick := by
  have visits : s.freshnessTick = allPlaces.foldl (fun t x => t.tickSlot x.1 x.2) s.tickBegun := by
    rw [allPlaces, List.foldl_flatMap]
    rfl
  rw [visits]
  exact State.aged_foldl allPlaces_nodup _

end

theorem freshPeriod_eq : Config.second / 2 = Config.freshPeriod := by norm_num [Config.second, Config.freshPeriod]

/-- Some way of a set freezes its column exactly when a slot of the set does. -/
theorem State.exists_freezes_iff (s : State) (p : SetIx) : (∃ x ∈ allPlaces, x.1 = p ∧ s.freezes x = true) ↔
    ((s.points[p]).slots.any fun sl => sl.turns s.straps.stale && sl.use.fixed &&
      decide ((s.points[p]).owner = some sl.point)) = true := by
  have here (w : Way) : s.freezes (p, w) = (s.slotAt p w).toList.any fun sl =>
      sl.turns s.straps.stale && sl.use.fixed && decide ((s.points[p]).owner = some sl.point) := by
    rw [State.freezes, State.turnedAt, List.any_filter]
    simp only [Bool.and_assoc]
  have ways : (∃ x ∈ allPlaces, x.1 = p ∧ s.freezes x = true) ↔
      s.freezes (p, .zero) = true ∨ s.freezes (p, .one) = true := by
    constructor
    · rintro ⟨⟨q, w⟩, _, rfl, h⟩
      cases w
      · exact .inl h
      · exact .inr h
    · rintro (h | h)
      · exact ⟨(p, .zero), mem_allPlaces _, rfl, h⟩
      · exact ⟨(p, .one), mem_allPlaces _, rfl, h⟩
  rw [ways, here, here, PointSet.slots, List.any_append, Bool.or_eq_true]
  rfl

/-- Settles O23: a freshness tick ages every slot and tells of those that turn stale. -/
theorem freshnessTickAgesEverySlot : Obligations.FreshnessTickAgesEverySlot := by
  intro s hrun turns turned frozen time
  have hturns : Slot.turns s.straps.stale = turns := funext fun sl =>
    congrArg (fun n => !sl.win.stale && decide (n ≤ sl.win.fresh + 1)) (staleTicks_eq s.straps.stale sl.use)
  have aged := s.freshnessTick_aged
  have hturned : s.tickBegun.turnedOf allPlaces = turned := by
    rw [State.turnedOf_allPlaces]
    exact congrArg (fun f => s.slots.filter f) hturns
  have hfrozen (p : SetIx) : (∃ x ∈ allPlaces, x.1 = p ∧ s.tickBegun.freezes x = true) ↔ frozen p = true := by
    refine (s.tickBegun.exists_freezes_iff p).trans (Eq.to_iff (congrArg (· = true) ?_))
    exact congrArg (fun f : Slot → Bool => (s.points[p]).slots.any fun sl =>
      f sl && sl.use.fixed && decide ((s.points[p]).owner = some sl.point)) hturns
  have hstandby : (turned.foldl State.toldStale s.tickBegun).standby =
      (turned.foldl State.toldStale { s with now := time }).standby :=
    State.foldl_toldStale_congr turned rfl rfl rfl
  have hframe := aged.frame
  rw [hturned, hstandby, State.toldStale_eq] at hframe
  refine ⟨s.freshnessTick, by rw [exec_freshnessTick, State.act_running hrun], fun p w => ?_, aged.lru, fun p => ?_,
    fun st hst => ?_, ?_⟩
  · refine (aged.slots p w).trans ((if_pos (mem_allPlaces _)).trans ?_)
    refine congrArg (Option.map · (s.slotAt p w)) (funext fun sl => ?_)
    rw [Slot.ticked_eq]
    exact congrArg (fun b => if sl.win.stale then sl else
      { sl with win := { sl.win with fresh := sl.win.fresh + 1, stale := b } }) (congrFun hturns sl)
  · exact (aged.freeze p).trans (if_congr (and_congr_left' (hfrozen p)) rfl rfl)
  · rw [hframe]
    dsimp only
    rw [← State.toldStale_eq]
    exact State.foldl_toldStale_quiet turned _ st (.inr hst)
  · rw [freshPeriod_eq]
    exact hframe

end Sys2Proof.Machine
